-- ==== Sys2Proof/Word.lean ====
section
/-! DEFINITION. The plain data the whole model uses: bytes and words, fixed tables of like things, and the two clamps of the manual's conventions. -/

namespace Sys2Proof

/-- One byte of a link frame or of a stored setup record. -/
abbrev Byte := BitVec 8

/-- The data bits of one word of the Track Store (10, R165). -/
abbrev Word := BitVec 32

/-- A slot number, 0 to 11 (00, CONVENTIONS, Names). -/
abbrev Slot := Fin 12

/-- A probe port number, 0 to 7. -/
abbrev Port := Fin 8

/-- A curve area number, 0 to 7. -/
abbrev Area := Fin 8

/-- A curve piece number, 0 to 3. -/
abbrev Piece := Fin 4

/-- Every slot, ascending. A lower slot number is a higher priority. -/
def allSlots : List Slot := [0, 1, 2, 3, 4, 5, 6, 7, 8, 9, 10, 11]

/-- A fixed table with the entry at `i` replaced. -/
def put {α : Type} {n : Nat} (v : Vector α n) (i : Fin n) (x : α) : Vector α n :=
  v.set i.val x i.isLt

/-- To clamp an integer into a range (00, CONVENTIONS, Clamp and saturate). -/
def clampInt (lo hi x : Int) : Int := max lo (min hi x)

/-- To clamp a natural number into a range. -/
def clampNat (lo hi x : Nat) : Nat := max lo (min hi x)

/-- The greatest track position, 2^31 - 1 tu. -/
def posMax : Int := 2147483647

/-- To clamp into the track position range. -/
def clampPos (x : Int) : Int := clampInt (-posMax) posMax x

/-- Whether a value lies inside the track position range. -/
def inPosRange (x : Int) : Bool := decide (-posMax ≤ x) && decide (x ≤ posMax)

end Sys2Proof
end

