-- ==== Sys2Proof/Syntax.lean ====
section
/-! DEFINITION. The commands of the station: one constructor for each row of spec/opcode_table.json, in the table's order. -/

namespace Sys2Proof

/-- A frame as the receiver assembled it from the car link with a matching CRC (11, R176).
The start byte, the kind code, the length byte and the CRC are not held: the row says the kind, and the length is the payload's. -/
structure Frame where
  source : Byte
  dest : Byte
  payload : List Byte
deriving DecidableEq, Repr

/-- The commands. Each is one row of the table, whole and indivisible (95). -/
inductive Instr where
  /-- Power-on or release of the RESET pin, with the pins as they stand: the encoder pair AB, whether another
  station pulls the rail line, and the station number straps. -/
  | powerOnReset (encoder : BitVec 2) (railPulled : Bool) (straps : Fin 8)
  /-- The encoder pair takes the value AB (bit 1 is A, bit 0 is B). -/
  | encoderTransition (pair : BitVec 2)
  | step
  | reversal
  | statusIntervalReached
  | repetitionTimerExpiry
  | roundFormation
  | turnReads
  | inZoneQuestion
  | railLineAssertion
  | railLineRelease
  | arbitrationDelayExpiry
  | stuckTimerExpiry
  /-- The quiet time runs out. `transmitted` is the pulser's report (R56); `samples` are the rectified samples of the
  receive port as (tick, value), ticks strictly rising, a tick not listed reading 0. -/
  | shotCompletion (transmitted : Bool) (samples : List (Nat × Nat))
  | shotProcessing
  | expiryTest
  | reversalSweep
  | haltSweep
  | endSweep
  | markerTest
  | markerPulseExpiry
  /-- An outside event changes the bits of `mask` (bits 0 to 31 data, 32 to 38 check) of the word at `addr`. -/
  | upset (addr : Nat) (mask : BitVec 39)
  | scrubTimerExpiry
  | scrubRequestUrgent
  | scrubRead
  /-- The bytes received, from the start byte on, before the frame was complete or the line fell idle. -/
  | malformedFrame (bytes : List Byte)
  /-- Activity on the car link, from another node or from this one. -/
  | lineActivity (fromOther : Bool)
  | setupStation (f : Frame)
  | setupSlot (f : Frame)
  | setupCurve (f : Frame)
  | setupFrameStore
  | closeSetup (f : Frame)
  | closeSetupChecks
  | armNew (f : Frame)
  | armResume (f : Frame)
  | halt (f : Frame)
  | endRun (f : Frame)
  | stationReset (f : Frame)
  | stationResetClearing
  | shotRequest (f : Frame)
  | indication (f : Frame)
  | watch (f : Frame)
  | peerStatusFrame (f : Frame)
  | peerShotFrame (f : Frame)
  | peerFrameJoin
  | statusTimerExpiry
  | idleWaitExpiry
  | accessDelayExpiry
  | transmitterRead
  | transmissionEnd
  | fifoRemoval
  | resetPinAsserted
deriving DecidableEq, Repr

end Sys2Proof
end

