-- ==== Sys2Proof/Machine/Types.lean ====
section
/-! DEFINITION. The data types the blocks hold: modes, records, entries and frames as named fields (00, CONVENTIONS, Fields). -/

namespace Sys2Proof.Machine

/-- Travel direction Dir, +1 or −1 (01). Also the side of a mark (09). -/
inductive Dir where
  | plus | minus
deriving DecidableEq, Repr, Inhabited

/-- The run states (11, R184). -/
inductive RunState where
  | setup | ready | run | hold
deriving DecidableEq, Repr, Inhabited

/-- The trigger field of the station record (02, FORMING A ROUND). -/
inductive Trigger where
  | position | timer
deriving DecidableEq, Repr, Inhabited

/-- The marker mode of the station record (09, R157). -/
inductive MarkerMode where
  | pulse | level
deriving DecidableEq, Repr, Inhabited

/-- The walk states of the Slot Scheduler (02). -/
inductive Walk where
  | idle | reading | claiming | shot
deriving DecidableEq, Repr, Inhabited

/-- What formed a round (02). -/
inductive Origin where
  | step | timer
deriving DecidableEq, Repr, Inhabited

/-- The causes of a coverage gap; the first three are also the skip causes (06, R103, R104). -/
inductive GapCause where
  | overrun | port | store | coupling
deriving DecidableEq, Repr, Inhabited

/-- The claim states of the Rail Claim Unit (03). -/
inductive Claim where
  | idle | waiting | delay | holding
deriving DecidableEq, Repr, Inhabited

/-- The flat-gain mark of a slot and its reason (04, R60, R61). -/
inductive FlatGain where
  | clear | incomplete | order | damaged
deriving DecidableEq, Repr, Inhabited

/-- The coupling states of a slot (06). -/
inductive CouplingState where
  | coupled | doubtful | lost | recovering
deriving DecidableEq, Repr, Inhabited

/-- The effective coupling source of a slot (06, R92). -/
inductive CouplingSource where
  | interface | gateB | none
deriving DecidableEq, Repr, Inhabited

/-- The two hit gates (05). -/
inductive Gate where
  | a | b
deriving DecidableEq, Repr, Inhabited

/-- The gate modes (05). -/
inductive GateMode where
  | first | peak | absence
deriving DecidableEq, Repr, Inhabited

/-- The status of a gate result (05, R82). -/
inductive GateStatus where
  | disabled | notEvaluated | found | notFound | loss | present
deriving DecidableEq, Repr, Inhabited

/-- The kinds of hit (05, HITS). -/
inductive HitKind where
  | reflector | backwallLoss
deriving DecidableEq, Repr, Inhabited

/-- The closure causes that lead to evaluation (07, CLOSURE); cause STORE frees without one (R124). -/
inductive ClosureCause where
  | misses | span | evicted | coupling | reversal | halt | runEnd
deriving DecidableEq, Repr, Inhabited

/-- The mark of a confirmation entry (08). -/
inductive ConfMark where
  | reported | weak
deriving DecidableEq, Repr, Inhabited

/-- The transmitter's access states (11, R179). -/
inductive Access where
  | idle | idleWait | delay | sending
deriving DecidableEq, Repr, Inhabited

/-- The five requesters of the Track Store, highest priority first (10, R170). -/
inductive Requester where
  | shot | receiver | transmitter | marker | scrubber
deriving DecidableEq, Repr, Inhabited

/-- One value for each gap cause. -/
structure PerCause (α : Type) where
  overrun : α
  port : α
  store : α
  coupling : α
deriving DecidableEq, Repr, Inhabited

/-- A gate's fields in the slot record (05, SLOT FIELDS). -/
structure GateFields where
  enable : Bool
  start : Nat
  stop : Nat
  threshold : Nat
  mode : GateMode
deriving DecidableEq, Repr, Inhabited

/-- The station record (11, R189, SETUP STATION). -/
structure StationRecord where
  railRight : Bool
  trigger : Trigger
  markerMode : MarkerMode
  markClass : Nat
  ps : Int
  countLen : Nat
  stepCounts : Nat
  hyst : Nat
  period : Nat
  noiseFloor : Nat
  span : Nat
  window : Nat
  depthTol : Nat
  maxSpan : Nat
  confirmTol : Nat
  watchHalf : Nat
  watchBoost : Nat
  gunOffset : Int
  markerPulse : Nat
  markLength : Nat
  markSpacing : Nat
  statusInterval : Nat
deriving DecidableEq, Repr, Inhabited

/-- A slot record (11, R189, SETUP SLOT). `area` absent means NONE. -/
structure SlotRecord where
  slot : Nat
  divisor : Nat
  enable : Bool
  claimsRail : Bool
  autoZero : Bool
  interfaceSync : Bool
  look : Dir
  feed : Bool
  watchResponse : Bool
  sourceGateB : Bool
  txPort : Port
  rxPort : Port
  baseGain : Nat
  quiet : Nat
  area : Option Area
  velocity : Nat
  wedge : Nat
  depthFactor : Nat
  offsetFactor : Nat
  pm : Int
  pa : Int
  gateI : GateFields
  gateA : GateFields
  gateB : GateFields
  couplingThreshold : Nat
  closeGap : Nat
  lossRun : Nat
  recoveryRun : Nat
  nrep : Nat
  nwatch : Nat
  arep : Nat
  awatch : Nat
  asev : Nat
deriving DecidableEq, Repr, Inhabited

/-- A round of due slots (02). `todo` are the due slots not yet disposed of, ascending; its head is the next turn. -/
structure Round where
  origin : Origin
  index : Option Nat
  pos : Int
  due : List Slot
  todo : List Slot
deriving DecidableEq, Repr, Inhabited

/-- The slot-record fields that a turn's reads give the fire (02, R17, R23). -/
structure Turn where
  txPort : Port
  rxPort : Port
  quiet : Nat
  autoZero : Bool
deriving DecidableEq, Repr, Inhabited

/-- The boost decision of a shot (04, R65). -/
structure Boost where
  boost : Nat
  watch : Bool
deriving DecidableEq, Repr, Inhabited

/-- A shot between its fire and its completion (02). `decision` is absent until the question of R145 is answered. -/
structure Shot where
  slot : Slot
  firePos : Int
  settle : Bool
  unclaimed : Bool
  void : Bool
  turn : Turn
  decision : Option Boost
deriving DecidableEq, Repr, Inhabited

/-- What the Front End holds while it listens (04, R54). -/
structure Listening where
  port : Port
  noiseFloor : Nat
deriving DecidableEq, Repr, Inhabited

/-- One echo peak: time in ticks and raw amplitude (04, R53). -/
structure Peak where
  time : Nat
  raw : Nat
deriving DecidableEq, Repr, Inhabited

/-- The shot record (04, R53), with the shot's fields that travel with it. -/
structure ShotRecord where
  slot : Slot
  firePos : Int
  settle : Bool
  unclaimed : Bool
  autoZero : Bool
  transmitted : Bool
  peaks : List Peak
  overflow : Bool
  decision : Option Boost
deriving DecidableEq, Repr, Inhabited

/-- A gained peak (04, R69). -/
structure GainedPeak where
  time : Nat
  raw : Nat
  curveGain : Int
  totalGain : Nat
  amp : Nat
  saturated : Bool
  gainClamped : Bool
  flatGain : Bool
  watch : Bool
deriving DecidableEq, Repr, Inhabited

/-- A gate result (05, R82); `place` counts from 1. -/
structure GateResult where
  status : GateStatus
  window : Option (Nat × Nat)
  time : Option Nat
  amp : Option Nat
  place : Option Nat
deriving DecidableEq, Repr, Inhabited

/-- The three results of a shot, and its no-interface mark (05, R78, R82). -/
structure GateResults where
  i : GateResult
  a : GateResult
  b : GateResult
  noInterface : Bool
deriving DecidableEq, Repr, Inhabited

/-- The six flags of a hit, an entry and a record (05, R84). -/
structure HitFlags where
  saturated : Bool
  gainClamped : Bool
  flatGain : Bool
  wedgeClamp : Bool
  watch : Bool
  posLimit : Bool
deriving DecidableEq, Repr, Inhabited

/-- A hit (05, R83). -/
structure Hit where
  slot : Slot
  gate : Gate
  kind : HitKind
  time : Option Nat
  amp : Nat
  pos : Int
  depth : Option Nat
  flags : HitFlags
deriving DecidableEq, Repr, Inhabited

/-- An open entry of the indication table (07). -/
structure Entry where
  number : Nat
  slot : Slot
  gate : Gate
  kind : HitKind
  lo : Int
  hi : Int
  peakAmp : Nat
  peakPos : Int
  depths : Option (Nat × Nat)
  hits : Nat
  missRun : Nat
  last : Int
  flags : HitFlags
deriving DecidableEq, Repr, Inhabited

/-- The indication record of a reportable closure (07, R128). `source` is the confirming station and number. -/
structure IndicationRecord where
  station : Nat
  number : Nat
  railRight : Bool
  slot : Slot
  gate : Gate
  kind : HitKind
  lo : Int
  hi : Int
  peakPos : Int
  peakAmp : Nat
  depths : Option (Nat × Nat)
  hits : Nat
  cls : Nat
  cause : ClosureCause
  flags : HitFlags
  source : Option (Nat × Nat)
deriving DecidableEq, Repr, Inhabited

/-- A confirmation entry (08). -/
structure ConfEntry where
  station : Nat
  slot : Nat
  number : Nat
  pos : Int
  mark : ConfMark
deriving DecidableEq, Repr, Inhabited

/-- A watch zone (08). -/
structure Zone where
  centre : Int
  half : Nat
deriving DecidableEq, Repr, Inhabited

/-- An outgoing watch entry (11). -/
structure WatchOut where
  railRight : Bool
  centre : Int
  half : Nat
  origin : Nat
  slot : Nat
deriving DecidableEq, Repr, Inhabited

/-- A mark (09). -/
structure Mark where
  pos : Int
  side : Dir
  fresh : Bool
deriving DecidableEq, Repr, Inhabited

/-- An item of a stored collection with the place of its region that holds its words (10, R165). -/
structure Placed (α : Type) where
  place : Nat
  item : α
deriving DecidableEq, Repr, Inhabited

/-- An open coverage gap (06, R103). -/
structure Gap where
  fromPos : Int
  toPos : Int
deriving DecidableEq, Repr, Inhabited

/-- A gap record as handed to the Link Controller (06, R106). -/
structure GapRecord where
  slot : Slot
  cause : GapCause
  fromPos : Int
  toPos : Int
  isOpen : Bool
deriving DecidableEq, Repr, Inhabited

/-- The contents of a SHOT frame (04, R37; 11, R181, R189). -/
structure ShotAnswer where
  record : ShotRecord
  results : GateResults
deriving DecidableEq, Repr, Inhabited

/-- The ten counts of the STATUS report (11, R187), in the order of R189. -/
structure Counts where
  reportsLost : Nat
  watchesDropped : Nat
  trackerSaturation : Nat
  markerMissed : Nat
  storeCorrected : Nat
  storeUncorrectable : Nat
  crcErrors : Nat
  setupRefused : Nat
  encoderErrors : Nat
  untoldGaps : Nat
deriving DecidableEq, Repr, Inhabited

/-- One word of the Track Store (10, R165, R166): the data last written with fresh check bits, and which of the 39 stored
bits (0 to 31 data, 32 to 38 check) upsets have changed since. Log entry 6. -/
structure StoreWord where
  data : Word
  changed : BitVec 39
deriving DecidableEq, Repr, Inhabited

/-- What the check bits show of a word with three or more changed bits (10, R166): a double error, a single error at
the stored bit named, or no error. -/
inductive Beyond where
  | double
  | single (bit : Fin 39)
  | clean
deriving DecidableEq, Repr, Inhabited

/-- A client request of the shot-processing requester (10, R170). `live` is false once the turn or the run it was raised
for is gone: the access is still granted and then fires or forms nothing (02, R17, R26, R30). -/
inductive ShotReq where
  | processing
  | sweep (cause : ClosureCause)
  | expiry (pc : Int) (dir : Dir)
  | zone (slot : Slot) (firePos : Int)
  | formation (origin : Origin) (index : Option Nat) (pos : Int) (live : Bool)
  | turn (slot : Slot) (live : Bool)
deriving DecidableEq, Repr, Inhabited

/-- A frame's work for the link receiver requester (10, R170). -/
inductive RxReq where
  | station (payload : List Byte)
  | slot (payload : List Byte)
  | curve (payload : List Byte)
  | checks
  | clearing
  | indication (source : Nat) (payload : List Byte)
  | watch (source : Nat) (payload : List Byte)
deriving DecidableEq, Repr, Inhabited

/-- A request of the link transmitter (10, R170; 11, R180). `gone` is set when the head it is for has left. -/
inductive TxReq where
  | readReport
  | readFifo (gone : Bool)
  | removeHead (gone : Bool)
deriving DecidableEq, Repr, Inhabited

/-- The kinds of frame this station sends (11, R176). -/
inductive TxKind where
  | indication | watch | status | shot
deriving DecidableEq, Repr, Inhabited

/-- What the transmitter is doing in SENDING: waiting for its store read, or sending the frame's bytes. -/
inductive Tx where
  | none
  | reading
  | sending (kind : TxKind) (bytes : List Byte)
deriving DecidableEq, Repr, Inhabited

end Sys2Proof.Machine
end

