-- ==== Sys2Proof/Config.lean ====
section
/-! DEFINITION. What the manual leaves open: constants with no body, so that nothing can be proved of their values. -/

namespace Sys2Proof.Config

/-- FREE VALUE (log 6). What the check bits show of a word, last written as `data`, with three or more of its 39 stored
bits changed (10, R166: "Three or more lie beyond the code"). The manual does not give the code. -/
opaque beyondCode : Word → BitVec 39 → Machine.Beyond

/-- FREE VALUE (log 7). What an item of a stored collection becomes when wrong data is taken for its word number `word`
(10, R166), `changed` being the bits that were changed. The arrangement of fields in the words is not given (11, R182). -/
opaque garbled {α : Type} [Inhabited α] : α → Nat → BitVec 39 → α

/-- FREE VALUE (log 10). The data that work which goes on takes for a setup word of which a read returns no data, the word
having last been written as `data` with these bits changed since (10, R167). The manual gives no result of such a read. -/
opaque unreadable : Word → BitVec 39 → Word

end Sys2Proof.Config
end

