-- ==== Sys2Proof/Machine/State.lean ====
section
/-! DEFINITION. The state of the station, block by block (00, BLOCK DIAGRAM), its reset value, and the reasons a step can stop. -/

namespace Sys2Proof.Machine

/-- The faults. -/
inductive Fault where
  /-- Raised by UPSET of a word address above 1023: the Track Store has no such word (10, R165). Safe. -/
  | noSuchWord (addr : Nat)
deriving DecidableEq, Repr

/-- The refusals. No meaning of this model refuses. -/
inductive Refusal where
  /-- A command that has no meaning yet; raised by no arm of this model. Safe. -/
  | notModelled (mnemonic : String)
deriving DecidableEq, Repr

/-- Odometry Unit (01). `stepReached` and `revReached` are the model's own (log 1): a count has reached S or H and the
STEP or REVERSAL command that completes it has not been taken. -/
structure Odometry where
  ref : BitVec 2
  pc : Int
  posLimit : Bool
  dir : Dir
  revRun : Nat
  acc : Nat
  index : Nat
  stepReached : Bool
  revReached : Bool
  countLen : Nat
  stepCounts : Nat
  hyst : Nat
  ps : Int
deriving DecidableEq, Repr, Inhabited

/-- Slot Scheduler (02). `turn` holds the fields that the turn's reads gave, from the reads to the fire. -/
structure Scheduler where
  walk : Walk
  round : Option Round
  pendingRound : Option Round
  shot : Option Shot
  turn : Option Turn
  repTimer : Option Nat
  wedge : Vector Nat 12
  settled : Vector Bool 12
  zeroFailed : Vector Bool 12
  storeDamaged : Vector Bool 12
  request : Option Slot
deriving DecidableEq, Repr

/-- Rail Claim Unit (03). `others` is the pin: whether another station pulls the line. -/
structure RailUnit where
  claim : Claim
  slot : Option Slot
  delay : Option Nat
  deferral : Nat
  drive : Bool
  others : Bool
  stuckTimer : Option Nat
  stuck : Bool
deriving DecidableEq, Repr, Inhabited

/-- Receiver Front End and Gain Unit (04). `takenFlat` tells whether the flat-gain mark of the record in processing was set
when the record was taken (R62). -/
structure GainUnit where
  listening : Option Listening
  pieces : Vector (Vector Bool 4) 8
  flat : Vector FlatGain 12
  processing : Option ShotRecord
  queue : List ShotRecord
  takenFlat : Bool
deriving DecidableEq, Repr

/-- Gate Evaluator (05): the marks decided at CLOSE SETUP. -/
structure GateUnit where
  offI : Vector Bool 12
  offA : Vector Bool 12
  offB : Vector Bool 12
  syncOff : Vector Bool 12
deriving DecidableEq, Repr

/-- The coupling state of one slot (06). -/
structure SlotCoupling where
  state : CouplingState
  failRun : Nat
  passRun : Nat
  doubt : Option Int
  source : CouplingSource
deriving DecidableEq, Repr, Inhabited

/-- Coupling Monitor (06). -/
structure CouplingUnit where
  slots : Vector SlotCoupling 12
  noTransmit : Vector Nat 8
  portFault : Vector Bool 8
  gaps : Vector (PerCause (Option Gap)) 12
deriving DecidableEq, Repr

/-- Indication Tracker (07). An index is OPEN when it holds an entry. -/
structure TrackerUnit where
  entries : Vector (Option Entry) 32
  order : List (Fin 32)
  next : Nat
deriving DecidableEq, Repr

/-- Confirmation Unit (08): both lists in join order. -/
structure ConfUnit where
  list : List (Placed ConfEntry)
  zones : List (Placed Zone)
deriving DecidableEq, Repr, Inhabited

/-- Report Queue (09): the records in join order; `locked` is the locked number. -/
structure ReportUnit where
  records : List (Placed IndicationRecord)
  locked : Option Nat
deriving DecidableEq, Repr, Inhabited

/-- Marker Unit (09). `least` and `greatest` are the swept range; `latest` is the new gun position of the latest change
taken into it. The test request stands with the store's waiting requests. -/
structure MarkerUnit where
  marks : List (Placed Mark)
  least : Int
  greatest : Int
  latest : Int
  on : Bool
  pulseTimer : Option Nat
  reference : Option Int
  gunOffset : Int
  mode : MarkerMode
  pulse : Nat
  length : Nat
  spacing : Nat
deriving DecidableEq, Repr, Inhabited

/-- Track Store (10): the words, the grant, the waiting requests and the scrubber. A granted request stands in its list until
the command of its access takes it (log 3). `shotReqs` holds the requests of the shot-processing requester in the order of
arising, those that arose together in one group. The model's own (log 3): `grantRun`, the run state at the latest grant, which
decides a setup frame's access (R174); `grantShots`, how many groups of `shotReqs` waited at the latest grant; `clearAtRelease`,
that the work in progress has found a double error in the station record (R168). -/
structure StoreUnit where
  cells : List (Nat × StoreWord)
  grant : Option Requester
  grantRun : RunState
  grantShots : Nat
  shotReqs : List (List ShotReq)
  rxReqs : List RxReq
  txReqs : List TxReq
  markerReq : Bool
  scrubReq : Bool
  scrubUrgent : Bool
  scrubAddr : Nat
  scrubTimer : Option Nat
  scrubWait : Nat
  clearAtRelease : Bool
deriving DecidableEq, Repr, Inhabited

/-- Link Controller and Run Control (11). `wait` is the idle wait or the access delay that is running, in bit times. -/
structure LinkUnit where
  run : RunState
  present : Bool
  access : Access
  holdOff : Bool
  wait : Option Nat
  tx : Tx
  fifo : List (Placed WatchOut)
  statusDue : Bool
  partsLeft : List (List Byte)
  stepCount : Nat
  statusTimer : Option Nat
  counts : Counts
  clash : Bool
  gapList : List GapRecord
  untold : Vector (PerCause Bool) 12
  shotBuf : Option ShotAnswer
deriving DecidableEq, Repr

/-- The whole station, and the queue of the commands that are waiting. -/
structure State where
  strap : Fin 8
  resetPin : Bool
  odo : Odometry
  sched : Scheduler
  rail : RailUnit
  gain : GainUnit
  gates : GateUnit
  coup : CouplingUnit
  trk : TrackerUnit
  conf : ConfUnit
  rep : ReportUnit
  mark : MarkerUnit
  store : StoreUnit
  link : LinkUnit
  pending : List Instr
deriving DecidableEq, Repr

/-- The outcome of a command. -/
abbrev Out := Host.Outcome State Fault Refusal

/-- The same value for every gap cause. -/
def PerCause.all {α : Type} (x : α) : PerCause α := ⟨x, x, x, x⟩

/-- The counts at 0. -/
def Counts.zero : Counts := ⟨0, 0, 0, 0, 0, 0, 0, 0, 0, 0⟩

/-- Power-on values of the Odometry Unit (R3, R4, R14). -/
def Odometry.powerOn (encoder : BitVec 2) : Odometry :=
  { ref := encoder, pc := 0, posLimit := false, dir := .plus, revRun := 0, acc := 0, index := 0,
    stepReached := false, revReached := false, countLen := 1, stepCounts := 1, hyst := 1, ps := 0 }

/-- Power-on values of the Slot Scheduler (R18, R20, R31, R34, R35, R36, R38). -/
def Scheduler.powerOn : Scheduler :=
  { walk := .idle, round := none, pendingRound := none, shot := none, turn := none, repTimer := none,
    wedge := Vector.replicate 12 0, settled := Vector.replicate 12 false, zeroFailed := Vector.replicate 12 false,
    storeDamaged := Vector.replicate 12 false, request := none }

/-- Power-on values of the Rail Claim Unit (R45, R46, R49): the stuck timer starts when the line is asserted. -/
def RailUnit.powerOn (pulled : Bool) : RailUnit :=
  { claim := .idle, slot := none, delay := none, deferral := 0, drive := false, others := pulled,
    stuckTimer := if pulled then some 0 else none, stuck := false }

/-- Power-on values of the Receiver Front End and Gain Unit (R57, R59). -/
def GainUnit.powerOn : GainUnit :=
  { listening := none, pieces := Vector.replicate 8 (Vector.replicate 4 false), flat := Vector.replicate 12 .clear,
    processing := none, queue := [], takenFlat := false }

/-- Power-on values of the Gate Evaluator (R73). -/
def GateUnit.powerOn : GateUnit :=
  { offI := Vector.replicate 12 false, offA := Vector.replicate 12 false, offB := Vector.replicate 12 false,
    syncOff := Vector.replicate 12 false }

/-- A slot COUPLED with empty runs and the given source (R99). -/
def SlotCoupling.fresh (source : CouplingSource) : SlotCoupling :=
  { state := .coupled, failRun := 0, passRun := 0, doubt := none, source := source }

/-- Power-on values of the Coupling Monitor (R92, R99, R101, R103). -/
def CouplingUnit.powerOn : CouplingUnit :=
  { slots := Vector.replicate 12 (SlotCoupling.fresh .interface), noTransmit := Vector.replicate 8 0,
    portFault := Vector.replicate 8 false, gaps := Vector.replicate 12 (PerCause.all none) }

/-- The tracker with every index FREE and next number 1 (R134). -/
def TrackerUnit.powerOn : TrackerUnit :=
  { entries := Vector.replicate 32 none, order := [], next := 1 }

/-- Both lists empty (R150). -/
def ConfUnit.powerOn : ConfUnit := { list := [], zones := [] }

/-- The report queue empty and unlocked (R156). -/
def ReportUnit.powerOn : ReportUnit := { records := [], locked := none }

/-- Power-on values of the Marker Unit (R157, R163): the gun position with Pc = 0 and Pg = 0 is 0. -/
def MarkerUnit.powerOn : MarkerUnit :=
  { marks := [], least := 0, greatest := 0, latest := 0, on := false, pulseTimer := none, reference := none,
    gunOffset := 0, mode := .pulse, pulse := 1, length := 8, spacing := 0 }

/-- The scrub period in µs (R173). -/
def scrubPeriod : Nat := 50

/-- The status timer's interval, 1 s, in ms (R186). -/
def statusPeriod : Nat := 1000

/-- The Track Store at the end of its clearing (R175). -/
def StoreUnit.powerOn : StoreUnit :=
  { cells := [], grant := none, grantRun := .setup, grantShots := 0, shotReqs := [], rxReqs := [], txReqs := [], markerReq := false, scrubReq := false,
    scrubUrgent := false, scrubAddr := 0, scrubTimer := some scrubPeriod, scrubWait := 0, clearAtRelease := false }

/-- Power-on values of the Link Controller and Run Control (R179, R185). DESIGN CHOICE (log 54): the access state is left IDLE, the
value that R179 gives, although STATUS due makes a frame ready. The next line or link command or release takes it to IDLE WAIT. -/
def LinkUnit.powerOn : LinkUnit :=
  { run := .setup, present := false, access := .idle, holdOff := false, wait := none, tx := .none, fifo := [],
    statusDue := true, partsLeft := [], stepCount := 0, statusTimer := some statusPeriod, counts := Counts.zero,
    clash := false, gapList := [], untold := Vector.replicate 12 (PerCause.all false), shotBuf := none }

/-- The station right after power-on or the release of the RESET pin, with the pins as given and an empty queue. -/
def State.powerOn (encoder : BitVec 2) (railPulled : Bool) (straps : Fin 8) : State :=
  { strap := straps, resetPin := false, odo := Odometry.powerOn encoder, sched := Scheduler.powerOn,
    rail := RailUnit.powerOn railPulled, gain := GainUnit.powerOn, gates := GateUnit.powerOn,
    coup := CouplingUnit.powerOn, trk := TrackerUnit.powerOn, conf := ConfUnit.powerOn, rep := ReportUnit.powerOn,
    mark := MarkerUnit.powerOn, store := StoreUnit.powerOn, link := LinkUnit.powerOn, pending := [] }

/-- The machine right after reset. DESIGN CHOICE (log 14): the pins the manual leaves to the wiring stand at encoder
pair 00, line not pulled, station number 0. -/
def State.reset : State := State.powerOn 0 false 0

end Sys2Proof.Machine
end

