-- ==== Sys2Proof/Machine/Flags.lean ====
section
/-! DEFINITION. Every flag and count computation: the counts that saturate, the flags of hits, the sense of a direction, and the tables kept per cause. -/

namespace Sys2Proof.Machine

/-- The sense of a direction, +1 or −1. -/
def Dir.sign : Dir → Int
  | .plus => 1
  | .minus => -1

/-- The other direction. -/
def Dir.flip : Dir → Dir
  | .plus => .minus
  | .minus => .plus

/-- A STATUS count raised by one; each count stops at 255 (R187). -/
def bump (n : Nat) : Nat := min 255 (n + 1)

/-- One more report lost (R152, R155). -/
def addReportsLost (c : Counts) : Counts := { c with reportsLost := bump c.reportsLost }
/-- One more watch dropped (R180, R167). -/
def addWatchesDropped (c : Counts) : Counts := { c with watchesDropped := bump c.watchesDropped }
/-- One more hit dropped at a full table (R117). -/
def addTrackerSaturation (c : Counts) : Counts := { c with trackerSaturation := bump c.trackerSaturation }
/-- One more mark missed (R158, R162). -/
def addMarkerMissed (c : Counts) : Counts := { c with markerMissed := bump c.markerMissed }
/-- One more single error corrected (R166). -/
def addStoreCorrected (c : Counts) : Counts := { c with storeCorrected := bump c.storeCorrected }
/-- One more double error read (R167). -/
def addStoreUncorrectable (c : Counts) : Counts := { c with storeUncorrectable := bump c.storeUncorrectable }
/-- One more malformed frame (R177). -/
def addCrcErrors (c : Counts) : Counts := { c with crcErrors := bump c.crcErrors }
/-- One more setup frame refused or write-aborted (R174, R182). -/
def addSetupRefused (c : Counts) : Counts := { c with setupRefused := bump c.setupRefused }
/-- One more illegal transition (R2). -/
def addEncoderErrors (c : Counts) : Counts := { c with encoderErrors := bump c.encoderErrors }
/-- One more gap that found the gap list full (R188). -/
def addUntoldGaps (c : Counts) : Counts := { c with untoldGaps := bump c.untoldGaps }

/-- A change of the counts. -/
def State.count (f : Counts → Counts) (s : State) : State :=
  { s with link := { s.link with counts := f s.link.counts } }

/-- No flag set. -/
def HitFlags.clear : HitFlags := ⟨false, false, false, false, false, false⟩

/-- The OR of two sets of flags (R84, R113). -/
def HitFlags.or (x y : HitFlags) : HitFlags :=
  { saturated := x.saturated || y.saturated, gainClamped := x.gainClamped || y.gainClamped,
    flatGain := x.flatGain || y.flatGain, wedgeClamp := x.wedgeClamp || y.wedgeClamp,
    watch := x.watch || y.watch, posLimit := x.posLimit || y.posLimit }

/-- The flags byte of an INDICATION frame (R189). -/
def HitFlags.toNat (f : HitFlags) : Nat :=
  f.saturated.toNat + 2 * f.gainClamped.toNat + 4 * f.flatGain.toNat + 8 * f.wedgeClamp.toNat + 16 * f.watch.toNat
    + 32 * f.posLimit.toNat

/-- The value held for a cause. -/
def PerCause.get {α : Type} (p : PerCause α) : GapCause → α
  | .overrun => p.overrun
  | .port => p.port
  | .store => p.store
  | .coupling => p.coupling

/-- The table with the value of one cause replaced. -/
def PerCause.set {α : Type} (p : PerCause α) (c : GapCause) (x : α) : PerCause α :=
  match c with
  | .overrun => { p with overrun := x }
  | .port => { p with port := x }
  | .store => { p with store := x }
  | .coupling => { p with coupling := x }

/-- The four causes in the order of the STATUS layout (R189). -/
def allCauses : List GapCause := [.overrun, .port, .store, .coupling]

end Sys2Proof.Machine
end

