-- ==== Sys2Proof/Machine/Operands.lean ====
section
/-! DEFINITION. Every operand form: the fields of frames and of stored setup records (R176, R182, R189), the CRC (R177), the frames this station sends, and the received samples as a peak list (R54, R55). -/

namespace Sys2Proof.Machine

/-! Reading fields of a payload: the high byte first, signed fields in two's complement (R176). -/

/-- Byte `i` of a payload. -/
def byteAt (p : List Byte) (i : Nat) : Nat := (p.getD i 0).toNat

/-- The 16-bit field at byte `i`. -/
def u16At (p : List Byte) (i : Nat) : Nat := byteAt p i * 256 + byteAt p (i + 1)

/-- The 32-bit field at byte `i`. -/
def u32At (p : List Byte) (i : Nat) : Nat := u16At p i * 65536 + u16At p (i + 2)

/-- A field of `2 * half` values read in two's complement. -/
def signed (half n : Nat) : Int := if n < half then (n : Int) else (n : Int) - 2 * (half : Int)

/-- The signed byte `i`. -/
def s8At (p : List Byte) (i : Nat) : Int := signed 128 (byteAt p i)

/-- The signed 16-bit field at byte `i`. -/
def s16At (p : List Byte) (i : Nat) : Int := signed 32768 (u16At p i)

/-- The signed 32-bit field at byte `i`. -/
def s32At (p : List Byte) (i : Nat) : Int := signed 2147483648 (u32At p i)

/-- `width` bits of `n` from bit `lo`. -/
def bits (n lo width : Nat) : Nat := n / 2 ^ lo % 2 ^ width

/-- Bit `k` of `n`. -/
def bit (n k : Nat) : Bool := bits n k 1 == 1

/-! Writing fields. -/

/-- One byte. -/
def byteOf (n : Nat) : Byte := BitVec.ofNat 8 n

/-- Two bytes, the high one first. -/
def u16Bytes (n : Nat) : List Byte := [byteOf (n / 256), byteOf n]

/-- Four bytes, the high one first. -/
def u32Bytes (n : Nat) : List Byte := u16Bytes (n / 65536) ++ u16Bytes n

/-- A signed value as the unsigned field of `m` values. -/
def unsigned (m : Nat) (x : Int) : Nat := (x % (m : Int)).toNat

/-- A signed 16-bit field. -/
def s16Bytes (x : Int) : List Byte := u16Bytes (unsigned 65536 x)

/-- A signed 32-bit field. -/
def s32Bytes (x : Int) : List Byte := u32Bytes (unsigned 4294967296 x)

/-! The setup records (R182, R189). -/

/-- The gate mode a code gives gate A: 2 and 3 become PEAK (R182). -/
def gateAMode (code : Nat) : GateMode := if code = 0 then .first else .peak

/-- The gate mode a code gives gate B: 3 becomes ABSENCE (R182). -/
def gateBMode (code : Nat) : GateMode := if code = 0 then .first else if code = 1 then .peak else .absence

/-- The code of a gate mode. -/
def GateMode.code : GateMode → Nat
  | .first => 0
  | .peak => 1
  | .absence => 2

/-- The fields of a SETUP STATION payload (R189). -/
def stationOfBytes (p : List Byte) : StationRecord :=
  { railRight := bit (byteAt p 0) 0
    trigger := if bit (byteAt p 0) 1 then .timer else .position
    markerMode := if bit (byteAt p 0) 2 then .level else .pulse
    markClass := bits (byteAt p 0) 3 2
    ps := s16At p 1
    countLen := byteAt p 3
    stepCounts := byteAt p 4
    hyst := byteAt p 5
    period := u16At p 6
    noiseFloor := u16At p 8
    span := u16At p 10
    window := u16At p 12
    depthTol := byteAt p 14
    maxSpan := u16At p 15
    confirmTol := u16At p 17
    watchHalf := u16At p 19
    watchBoost := byteAt p 21
    gunOffset := s16At p 22
    markerPulse := byteAt p 24
    markLength := u16At p 25
    markSpacing := u16At p 27
    statusInterval := u16At p 29 }

/-- Each field of the station record clamped to its range before the write (R182; ranges in 01 R4, 02 R20, 04 R54 R65,
07 R107, 08, 09 R157, 11 R186). -/
def stationClamp (r : StationRecord) : StationRecord :=
  { r with
    ps := clampInt (-16000) 16000 r.ps
    countLen := clampNat 1 64 r.countLen
    stepCounts := clampNat 1 32 r.stepCounts
    hyst := clampNat 1 16 r.hyst
    period := clampNat 50 65535 r.period
    noiseFloor := clampNat 1 4095 r.noiseFloor
    span := clampNat 64 65535 r.span
    window := clampNat 1 4095 r.window
    depthTol := clampNat 0 255 r.depthTol
    maxSpan := clampNat 64 65535 r.maxSpan
    confirmTol := clampNat 1 4095 r.confirmTol
    watchHalf := clampNat 8 4095 r.watchHalf
    watchBoost := clampNat 0 24 r.watchBoost
    gunOffset := clampInt (-16000) 16000 r.gunOffset
    markerPulse := clampNat 1 255 r.markerPulse
    markLength := clampNat 8 8000 r.markLength
    markSpacing := clampNat 0 8000 r.markSpacing
    statusInterval := clampNat 1 65535 r.statusInterval }

/-- The payload a station record is stored as (R182, R189). DESIGN CHOICE (log 52): bits that the table does not name are stored as
0. -/
def stationToBytes (r : StationRecord) : List Byte :=
  [byteOf (r.railRight.toNat + 2 * (r.trigger == .timer).toNat + 4 * (r.markerMode == .level).toNat + 8 * (r.markClass % 4))]
    ++ s16Bytes r.ps ++ [byteOf r.countLen, byteOf r.stepCounts, byteOf r.hyst]
    ++ u16Bytes r.period ++ u16Bytes r.noiseFloor ++ u16Bytes r.span ++ u16Bytes r.window
    ++ [byteOf r.depthTol] ++ u16Bytes r.maxSpan ++ u16Bytes r.confirmTol ++ u16Bytes r.watchHalf
    ++ [byteOf r.watchBoost] ++ s16Bytes r.gunOffset ++ [byteOf r.markerPulse]
    ++ u16Bytes r.markLength ++ u16Bytes r.markSpacing ++ u16Bytes r.statusInterval

/-- The fields of one gate: start, end and threshold from byte `at_`. -/
def gateOfBytes (p : List Byte) (at_ : Nat) (enable : Bool) (mode : GateMode) : GateFields :=
  { enable := enable, start := u16At p at_, stop := u16At p (at_ + 2), threshold := u16At p (at_ + 4), mode := mode }

/-- The curve area a code names; 8 to 15 mean NONE (R182). -/
def areaOfCode (code : Nat) : Option Area := if h : code < 8 then some ⟨code, h⟩ else none

/-- The fields of a SETUP SLOT payload (R189). -/
def slotOfBytes (p : List Byte) : SlotRecord :=
  { slot := bits (byteAt p 0) 0 4
    divisor := bits (byteAt p 0) 4 4
    enable := bit (byteAt p 1) 0
    claimsRail := bit (byteAt p 1) 1
    autoZero := bit (byteAt p 1) 2
    interfaceSync := bit (byteAt p 1) 3
    look := if bit (byteAt p 1) 4 then .minus else .plus
    feed := bit (byteAt p 1) 5
    watchResponse := bit (byteAt p 1) 6
    sourceGateB := bit (byteAt p 1) 7
    txPort := Fin.ofNat 8 (bits (byteAt p 2) 0 3)
    rxPort := Fin.ofNat 8 (bits (byteAt p 2) 3 3)
    baseGain := byteAt p 3
    quiet := bits (u16At p 4) 0 9
    area := areaOfCode (bits (u16At p 4) 12 4)
    velocity := u16At p 6
    wedge := u16At p 8
    depthFactor := u16At p 10
    offsetFactor := u16At p 12
    pm := s16At p 14
    pa := s16At p 16
    gateI := gateOfBytes p 19 (bit (byteAt p 18) 0) .first
    gateA := gateOfBytes p 25 (bit (byteAt p 18) 1) (gateAMode (bits (byteAt p 18) 3 2))
    gateB := gateOfBytes p 31 (bit (byteAt p 18) 2) (gateBMode (bits (byteAt p 18) 5 2))
    couplingThreshold := bits (u16At p 37) 0 10
    closeGap := bits (u16At p 37) 10 6
    lossRun := bits (byteAt p 39) 0 4
    recoveryRun := bits (byteAt p 39) 4 4
    nrep := byteAt p 40
    nwatch := byteAt p 41
    arep := u16At p 42
    awatch := u16At p 44
    asev := u16At p 46 }

/-- Gate fields clamped to 0 to 16383 ticks and threshold 0 to 1000 (05, SLOT FIELDS). -/
def gateClamp (g : GateFields) : GateFields :=
  { g with start := clampNat 0 16383 g.start, stop := clampNat 0 16383 g.stop, threshold := clampNat 0 1000 g.threshold }

/-- Each field of a slot record clamped to its range before the write (R182; ranges in 02, 04 R66, 05, 06, 07 R107, 08 R145). -/
def slotClamp (r : SlotRecord) : SlotRecord :=
  { r with
    divisor := clampNat 1 8 r.divisor
    baseGain := clampNat 0 120 r.baseGain
    quiet := clampNat 10 400 r.quiet
    velocity := clampNat 1000 7000 r.velocity
    wedge := clampNat 0 4095 r.wedge
    depthFactor := clampNat 0 4096 r.depthFactor
    offsetFactor := clampNat 0 4096 r.offsetFactor
    pm := clampInt (-8000) 8000 r.pm
    pa := clampInt (-16000) 16000 r.pa
    gateI := gateClamp r.gateI
    gateA := gateClamp r.gateA
    gateB := gateClamp r.gateB
    couplingThreshold := clampNat 0 1000 r.couplingThreshold
    closeGap := clampNat 1 32 r.closeGap
    lossRun := clampNat 1 15 r.lossRun
    recoveryRun := clampNat 1 15 r.recoveryRun
    nrep := clampNat 1 63 r.nrep
    nwatch := clampNat 1 63 r.nwatch
    arep := clampNat 0 1000 r.arep
    awatch := clampNat 0 1000 r.awatch
    asev := clampNat 0 1000 r.asev }

/-- The start, end and threshold bytes of a gate. -/
def gateBytes (g : GateFields) : List Byte := u16Bytes g.start ++ u16Bytes g.stop ++ u16Bytes g.threshold

/-- The payload a slot record is stored as (R182, R189). DESIGN CHOICE: NONE is stored as area code 15 (log 34), and bits that the
table does not name are stored as 0 (log 52). -/
def slotToBytes (r : SlotRecord) : List Byte :=
  [byteOf (r.slot % 16 + 16 * (r.divisor % 16)),
   byteOf (r.enable.toNat + 2 * r.claimsRail.toNat + 4 * r.autoZero.toNat + 8 * r.interfaceSync.toNat
     + 16 * (r.look == .minus).toNat + 32 * r.feed.toNat + 64 * r.watchResponse.toNat + 128 * r.sourceGateB.toNat),
   byteOf (r.txPort.val + 8 * r.rxPort.val), byteOf r.baseGain]
    ++ u16Bytes (r.quiet % 512 + 4096 * (match r.area with | some a => a.val | none => 15))
    ++ u16Bytes r.velocity ++ u16Bytes r.wedge ++ u16Bytes r.depthFactor ++ u16Bytes r.offsetFactor
    ++ s16Bytes r.pm ++ s16Bytes r.pa
    ++ [byteOf (r.gateI.enable.toNat + 2 * r.gateA.enable.toNat + 4 * r.gateB.enable.toNat
         + 8 * r.gateA.mode.code + 32 * r.gateB.mode.code)]
    ++ gateBytes r.gateI ++ gateBytes r.gateA ++ gateBytes r.gateB
    ++ u16Bytes (r.couplingThreshold % 1024 + 1024 * (r.closeGap % 64))
    ++ [byteOf (r.lossRun % 16 + 16 * (r.recoveryRun % 16)), byteOf r.nrep, byteOf r.nwatch]
    ++ u16Bytes r.arep ++ u16Bytes r.awatch ++ u16Bytes r.asev

/-- A payload as words, four bytes to a word in payload order (R182). The first byte of a word is its most significant (log 11).
DESIGN CHOICE (log 52): bytes of the last word that the payload does not fill are zero, which R182 leaves open for the 32nd byte of
the station record. -/
def wordsOf : List Byte → List Word
  | a :: b :: c :: d :: rest => (a ++ b ++ c ++ d) :: wordsOf rest
  | [] => []
  | [a] => [a ++ (0 : BitVec 24)]
  | [a, b] => [a ++ b ++ (0 : BitVec 16)]
  | [a, b, c] => [a ++ b ++ c ++ (0 : BitVec 8)]

/-- The four bytes of a word in payload order. -/
def bytesOf (w : Word) : List Byte :=
  [w.extractLsb' 24 8, w.extractLsb' 16 8, w.extractLsb' 8 8, w.extractLsb' 0 8]

/-- The station record held in its first eight words. -/
def stationOfWords (ws : List Word) : StationRecord := stationOfBytes (ws.flatMap bytesOf)

/-- The slot record held in its first twelve words. -/
def slotOfWords (ws : List Word) : SlotRecord := slotOfBytes (ws.flatMap bytesOf)

/-- A curve point as its word: time in the high half, gain in the low half (R182). -/
def pointWord (time : Nat) (gain : Int) : Word :=
  BitVec.ofNat 16 time ++ BitVec.ofInt 16 gain

/-- The curve point of a word. -/
def pointOfWord (w : Word) : Nat × Int := ((w.extractLsb' 16 16).toNat, (w.extractLsb' 0 16).toInt)

/-- The four points of a SETUP CURVE payload as words, clamped as they are written (R58). -/
def curveWords (p : List Byte) : List Word :=
  [2, 5, 8, 11].map fun i => pointWord (clampNat 0 16383 (u16At p i)) (clampInt (-40) 40 (s8At p (i + 2)))

/-! Frames on the car link (R176, R177). -/

/-- One bit entered into the CRC register of x^16 + x^12 + x^5 + 1. -/
def crcBit (reg : BitVec 16) (b : Bool) : BitVec 16 :=
  if reg.msb != b then (reg <<< 1) ^^^ 0x1021#16 else reg <<< 1

/-- One byte entered, most significant bit first. -/
def crcByte (reg : BitVec 16) (b : Byte) : BitVec 16 :=
  [7, 6, 5, 4, 3, 2, 1, 0].foldl (fun r i => crcBit r (b.getLsbD i)) reg

/-- The CRC over the bytes from kind through the last payload byte, the register set to all ones before (R177). -/
def crc16 (bytes : List Byte) : BitVec 16 := bytes.foldl crcByte 0xFFFF#16

/-- The start byte. -/
def startByte : Byte := 0xC3#8

/-- The recorder's node number. -/
def recorderNode : Nat := 15

/-- The destination that addresses every node. -/
def everyNode : Nat := 31

/-- A whole frame: start, kind, source, destination, length, payload, CRC (R176). -/
def frameBytes (kind source dest : Nat) (payload : List Byte) : List Byte :=
  let body := [byteOf kind, byteOf source, byteOf dest, byteOf payload.length] ++ payload
  startByte :: body ++ u16Bytes (crc16 body).toNat

/-- Whether a payload length is one its kind requires (R176). DESIGN CHOICE (log 46): the kind alone decides, so a STATUS frame
has any length that a part of a report can have, whatever part and count its first two bytes tell. -/
def lengthFits (kind n : Nat) : Bool :=
  match kind with
  | 1 => n == 31
  | 2 => n == 48
  | 3 => n == 14
  | 4 => n == 0
  | 5 => n == 5
  | 6 => n == 0
  | 7 => n == 0
  | 8 => n == 0
  | 9 => n == 1
  | 10 => n == 29
  | 11 => n == 10
  | 12 => n == 41 || n == 11 || n == 20 || n == 29 || n == 38
  | 13 => n == 48
  | _ => false

/-- Whether bytes received from a start byte on make a malformed frame (R177): the length above 48, the kind code not one
of 1 to 13, the length not the one the kind requires, the line idle before the last byte, or a CRC that does not match. -/
def frameMalformed (bytes : List Byte) : Bool :=
  match bytes with
  | [] => false
  | b :: body =>
    let n := byteAt body 3
    b == startByte &&
      (decide (48 < n) || !lengthFits (byteAt body 0) n || decide (body.length < 6 + n)
        || (crc16 (body.take (4 + n))).toNat != u16At body (4 + n))

/-- The code of a gate. -/
def Gate.code : Gate → Nat
  | .a => 0
  | .b => 1

/-- The code of a hit kind. -/
def HitKind.code : HitKind → Nat
  | .reflector => 0
  | .backwallLoss => 1

/-- The code of a closure cause (R189). -/
def ClosureCause.code : ClosureCause → Nat
  | .misses => 0
  | .span => 1
  | .evicted => 2
  | .coupling => 3
  | .reversal => 4
  | .halt => 5
  | .runEnd => 6

/-- The payload of an INDICATION frame (R189). -/
def indicationBytes (r : IndicationRecord) : List Byte :=
  [byteOf r.station] ++ u16Bytes r.number
    ++ [byteOf (r.slot.val + 16 * r.gate.code + 32 * r.kind.code + 64 * r.railRight.toNat + 128 * r.source.isSome.toNat)]
    ++ s32Bytes r.lo ++ s32Bytes r.hi ++ s32Bytes r.peakPos ++ u16Bytes r.peakAmp
    ++ u16Bytes (r.depths.getD (0, 0)).1 ++ u16Bytes (r.depths.getD (0, 0)).2 ++ u16Bytes r.hits
    ++ [byteOf (r.cls + 4 * r.cause.code), byteOf r.flags.toNat, byteOf (r.source.getD (0, 0)).1]
    ++ u16Bytes (r.source.getD (0, 0)).2

/-- The payload of a WATCH frame (R189). -/
def watchBytes (w : WatchOut) : List Byte :=
  [byteOf w.railRight.toNat] ++ s32Bytes w.centre ++ u16Bytes w.half ++ u16Bytes w.origin ++ [byteOf w.slot]

/-- The code of a gate status (R189). -/
def GateStatus.code : GateStatus → Nat
  | .disabled => 0
  | .notEvaluated => 1
  | .found => 2
  | .notFound => 3
  | .loss => 4
  | .present => 5

/-- The three bytes of a gate result in a SHOT frame (R189). -/
def gateResultBytes (g : GateResult) : List Byte :=
  [byteOf (g.status.code + 16 * g.place.getD 0)] ++ u16Bytes (g.amp.getD 0)

/-- The payload of a SHOT frame (R189). -/
def shotBytes (x : ShotAnswer) : List Byte :=
  let r := x.record
  let peaks := r.peaks.flatMap fun p => u16Bytes p.time ++ u16Bytes p.raw
  [byteOf r.slot.val,
   byteOf (r.transmitted.toNat + 2 * r.overflow.toNat + 4 * r.settle.toNat + 8 * r.unclaimed.toNat
     + 16 * x.results.noInterface.toNat),
   byteOf r.peaks.length]
    ++ s32Bytes r.firePos ++ (peaks ++ List.replicate 32 (0 : Byte)).take 32
    ++ gateResultBytes x.results.i ++ gateResultBytes x.results.a ++ gateResultBytes x.results.b

/-! The received signal (R54, R55). -/

/-- An excursion in progress: the tick of its latest sample, and its highest sample with that sample's first tick. -/
structure Excursion where
  latest : Nat
  peak : Peak
deriving DecidableEq, Repr, Inhabited

/-- The peaks of the excursions of a signal up to the last tick listened to. A sample above full scale reads 4095. -/
def peaksOf (floor lastTick : Nat) : Option Excursion → List (Nat × Nat) → List Peak
  | cur, [] => (cur.map (·.peak)).toList
  | cur, (t, v) :: rest =>
    if lastTick < t then (cur.map (·.peak)).toList
    else
      let v := min v 4095
      if v < floor then (cur.map (·.peak)).toList ++ peaksOf floor lastTick none rest
      else
        match cur with
        | none => peaksOf floor lastTick (some ⟨t, ⟨t, v⟩⟩) rest
        | some e =>
          if t = e.latest + 1 then
            peaksOf floor lastTick (some ⟨t, if e.peak.raw < v then ⟨t, v⟩ else e.peak⟩) rest
          else e.peak :: peaksOf floor lastTick (some ⟨t, ⟨t, v⟩⟩) rest

/-- The last echo time the Front End hears in a shot of the given quiet time in µs: the completion or tick 16383 (R54). -/
def lastTick (quiet : Nat) : Nat := min (quiet * 100) 16383

/-- The peak list of a shot, the first eight peaks, and its peak-overflow flag (R55). -/
def peakList (floor quiet : Nat) (samples : List (Nat × Nat)) : List Peak × Bool :=
  let ps := peaksOf floor (lastTick quiet) none samples
  (ps.take 8, decide (8 < ps.length))

end Sys2Proof.Machine
end

