-- ==== Sys2Proof/Machine/Ops.lean ====
section
/-! DEFINITION. The Track Store: its memory, the reading and writing of a word with the owner's action at damage (R165 to R169), the requests and the arbiter (R170, R171), and the items of the stored collections. -/

namespace Sys2Proof.Machine

/-! The memory: a list of (address, word), addresses strictly rising and below 1024, no entry equal to the cleared word,
which is what an unlisted address reads as (R175). -/

/-- A word with zero data and fresh check bits. -/
def clearedWord : StoreWord := ⟨0, 0⟩

/-- Reading one word of the memory. -/
def Memory.read : List (Nat × StoreWord) → Nat → StoreWord
  | [], _ => clearedWord
  | (b, w) :: rest, a => if b = a then w else Memory.read rest a

/-- Writing one word of the memory, keeping the canonical form. -/
def Memory.write : List (Nat × StoreWord) → Nat → StoreWord → List (Nat × StoreWord)
  | [], a, w => if w = clearedWord then [] else [(a, w)]
  | (b, v) :: rest, a, w =>
    if a < b then (if w = clearedWord then (b, v) :: rest else (a, w) :: (b, v) :: rest)
    else if a = b then (if w = clearedWord then rest else (a, w) :: rest)
    else (b, v) :: Memory.write rest a w

/-- The number of words (R165). -/
def storeSize : Nat := 1024

/-- The canonical form above a bound: addresses strictly rising from `lo`, below 1024, no cleared word listed. -/
def Memory.wfFrom : Nat → List (Nat × StoreWord) → Bool
  | _, [] => true
  | lo, (a, w) :: rest => decide (lo ≤ a) && decide (a < storeSize) && decide (w ≠ clearedWord) && Memory.wfFrom (a + 1) rest

/-- The canonical form of the memory. -/
def Memory.wf (m : List (Nat × StoreWord)) : Bool := Memory.wfFrom 0 m

/-- The word at an address. -/
def State.word (s : State) (a : Nat) : StoreWord := Memory.read s.store.cells a

/-- The state with a word replaced; an address beyond the store writes nothing. -/
def State.setWord (s : State) (a : Nat) (w : StoreWord) : State :=
  if a < storeSize then { s with store := { s.store with cells := Memory.write s.store.cells a w } } else s

/-- The data bits of a 39-bit mask. -/
def dataBits (m : BitVec 39) : Word := m.setWidth 32

/-- How many of the lowest `n` bits of a mask are set. -/
def bitCount : Nat → BitVec 39 → Nat
  | 0, _ => 0
  | n + 1, m => (m.getLsbD n).toNat + bitCount n m

/-- What a read finds in a word (R166). `wrong` tells that the data is not the data last written. -/
inductive Finding where
  | sound (data : Word)
  | corrected (data : Word) (wrong : Bool)
  | unseen (data : Word)
  | double
deriving DecidableEq, Repr

/-- The judgement of a word by its check bits (R166): no changed bit is sound, one is corrected, two are a double error,
and three or more are read as whatever the check bits show (log 6). -/
def judge (w : StoreWord) : Finding :=
  match bitCount 39 w.changed with
  | 0 => .sound w.data
  | 1 => .corrected w.data false
  | 2 => .double
  | _ =>
    match Config.beyondCode w.data w.changed with
    | .double => .double
    | .single k => .corrected (w.data ^^^ dataBits w.changed ^^^ dataBits (BitVec.twoPow 39 k.val)) true
    | .clean => .unseen (w.data ^^^ dataBits w.changed)

/-! Regions (R165). -/

/-- The item a word belongs to. -/
inductive Region where
  | station
  | slot (n : Slot)
  | curve (a : Area) (p : Piece)
  | entry (i : Fin 32)
  | conf (place : Nat)
  | zone (place : Nat)
  | fifo (place : Nat)
  | report (place : Nat)
  | mark (place : Nat)
deriving DecidableEq, Repr

/-- The first word of slot `n`'s record. -/
def slotBase (n : Slot) : Nat := 16 + 24 * n.val
/-- The word of point `p` of curve area `a`. -/
def pointAddr (a : Area) (p : Nat) : Nat := 304 + 16 * a.val + p
/-- The first word of index `i` of the indication table. -/
def entryBase (i : Fin 32) : Nat := 432 + 8 * i.val
/-- The first word of a place of the confirmation list. -/
def confBase (p : Nat) : Nat := 688 + 4 * p
/-- The first word of a place of the watch list. -/
def zoneBase (p : Nat) : Nat := 784 + 4 * p
/-- The first word of a place of the outgoing watch FIFO. -/
def fifoBase (p : Nat) : Nat := 816 + 4 * p
/-- The first word of a place of the report queue. -/
def reportBase (p : Nat) : Nat := 832 + 11 * p
/-- The first word of a place of the marker queue. -/
def markBase (p : Nat) : Nat := 1008 + 2 * p

/-- The region map (R165): the item that holds the word at an address, and the word's number in the item. -/
def regionOf (a : Nat) : Region × Nat :=
  if a < 16 then (.station, a)
  else if a < 304 then (.slot (Fin.ofNat 12 ((a - 16) / 24)), (a - 16) % 24)
  else if a < 432 then (.curve (Fin.ofNat 8 ((a - 304) / 16)) (Fin.ofNat 4 ((a - 304) % 16 / 4)), (a - 304) % 4)
  else if a < 688 then (.entry (Fin.ofNat 32 ((a - 432) / 8)), (a - 432) % 8)
  else if a < 784 then (.conf ((a - 688) / 4), (a - 688) % 4)
  else if a < 816 then (.zone ((a - 784) / 4), (a - 784) % 4)
  else if a < 832 then (.fifo ((a - 816) / 4), (a - 816) % 4)
  else if a < 1008 then (.report ((a - 832) / 11), (a - 832) % 11)
  else (.mark ((a - 1008) / 2), (a - 1008) % 2)

/-- Whether a collection holds an item in a place. -/
def holds {α : Type} (l : List (Placed α)) (p : Nat) : Bool := l.any fun x => x.place == p

/-- The collection without the item of a place. -/
def without {α : Type} (l : List (Placed α)) (p : Nat) : List (Placed α) := l.filter fun x => !(x.place == p)

/-- The collection with the item of a place changed. -/
def change {α : Type} (l : List (Placed α)) (p : Nat) (f : α → α) : List (Placed α) :=
  l.map fun x => if x.place = p then { x with item := f x.item } else x

/-- The lowest place, from `p` on, that a collection leaves free among the next `n`. The place an item takes is not
stated by the manual (log 9). -/
def freeFrom {α : Type} (l : List (Placed α)) : Nat → Nat → Nat
  | p, 0 => p
  | p, n + 1 => if holds l p then freeFrom l (p + 1) n else p

/-- The lowest free place of a collection. -/
def freePlace {α : Type} (l : List (Placed α)) : Nat := freeFrom l 0 l.length

/-- Whether the words of a region are live (R165). -/
def live (s : State) : Region → Bool
  | .station => s.link.present
  | .slot _ => true
  | .curve a p => (s.gain.pieces[a])[p]
  | .entry i => s.trk.entries[i].isSome
  | .conf p => holds s.conf.list p
  | .zone p => holds s.conf.zones p
  | .fifo p => holds s.link.fifo p
  | .report p => holds s.rep.records p
  | .mark p => holds s.mark.marks p

/-! Reading a word (R166) and the owners' actions at damage (R167). -/

/-- One read of a word (R166): the state after it, and its data when it returns any. `double` is what a double error does and
`wrong` what data other than the data last written does to the item holding the word. -/
def readWith (double : State → State) (wrong : BitVec 39 → State → State) (a : Nat) (s : State) : State × Option Word :=
  let w := s.word a
  match judge w with
  | .sound d => (s, some d)
  | .corrected d isWrong =>
    let s1 := (s.setWord a ⟨d, 0⟩).count addStoreCorrected
    (if isWrong then wrong w.changed s1 else s1, some d)
  | .unseen d => (wrong w.changed (s.setWord a ⟨d, 0⟩), some d)
  | .double => (double s, none)

/-- The slot becomes store-damaged (R35). -/
def damageSlot (n : Slot) (s : State) : State :=
  { s with sched := { s.sched with storeDamaged := put s.sched.storeDamaged n true } }

/-- The flat-gain mark of a slot replaced. -/
def setFlat (n : Slot) (m : FlatGain) (s : State) : State :=
  { s with gain := { s.gain with flat := put s.gain.flat n m } }

/-- The read of the word that holds a slot's curve area (R182), with the damage of the slot at a double error (R35). -/
def readArea (n : Slot) (s : State) : State × Option Word :=
  readWith (fun s => damageSlot n (s.count addStoreUncorrectable)) (fun _ s => s) (slotBase n + 1) s

/-- A slot that names a curve area takes flat gain with reason DAMAGED (R61). DESIGN CHOICE (log 37): its record is read for
the area it names, and a record whose word returns no data names none. -/
def damageNaming (a : Area) (s : State) (n : Slot) : State :=
  match readArea n s with
  | (s1, none) => s1
  | (s1, some d) => if (slotOfWords [0, d]).area = some a then setFlat n .damaged s1 else s1

/-- The piece loses its piece-written flag and the slots naming the area take flat gain (R61). -/
def damageCurve (a : Area) (p : Piece) (s : State) : State :=
  allSlots.foldl (damageNaming a)
    { s with gain := { s.gain with pieces := put s.gain.pieces a (put s.gain.pieces[a] p false) } }

/-- The index becomes FREE and leaves the opening order (R120, R124). -/
def freeEntry (i : Fin 32) (s : State) : State :=
  { s with trk := { s.trk with entries := put s.trk.entries i none, order := s.trk.order.filter (fun j => !(j == i)) } }

/-- Whether the record of a place is locked and its words have already been read: its frame is on the line (R155). -/
def recordSent (s : State) (p : Nat) : Bool :=
  match s.link.tx, s.rep.records, s.rep.locked with
  | .sending .indication _, r :: _, some _ => r.place == p
  | _, _, _ => false

/-- Whether a place holds the head of the report queue. -/
def isHeadRecord (s : State) (p : Nat) : Bool :=
  match s.rep.records with
  | r :: _ => r.place == p
  | [] => false

/-- The record of a place leaves the queue. The lock stands on the head alone and goes with it (R153, R155). -/
def dropRecord (p : Nat) (s : State) : State :=
  { s with rep := { records := without s.rep.records p, locked := if isHeadRecord s p then none else s.rep.locked } }

/-- A report record found damaged (R155): it leaves and is counted lost, unless its frame is on the line. -/
def damageRecord (p : Nat) (s : State) : State :=
  if recordSent s p then s else (dropRecord p s).count addReportsLost

/-- Whether the FIFO's head has been sent or is being sent, its words having been read: it leaves by R180 alone. -/
def headSent (s : State) : Bool :=
  (match s.link.tx with | .sending .watch _ => true | _ => false) || s.store.txReqs.any (· == .removeHead false)

/-- The transmitter's requests for the FIFO's head with the head marked gone (R180). -/
def headGone (l : List TxReq) : List TxReq :=
  l.map fun r => match r with | .readReport => .readReport | .readFifo _ => .readFifo true | .removeHead _ => .removeHead true

/-- An outgoing watch entry found damaged (R167): it leaves and is counted dropped, unless it is the head of a frame
already read for sending. A waiting read of a head that leaves finds it gone (R180). -/
def damageFifo (p : Nat) (s : State) : State :=
  let isHead := match s.link.fifo with | x :: _ => x.place == p | [] => false
  if isHead && headSent s then s
  else
    State.count addWatchesDropped
      { s with
        link := { s.link with fifo := without s.link.fifo p }
        store := { s.store with txReqs := if isHead then headGone s.store.txReqs else s.store.txReqs } }

/-- The mark of a place leaves the queue unfired and is counted missed (R162). -/
def damageMark (p : Nat) (s : State) : State :=
  State.count addMarkerMissed { s with mark := { s.mark with marks := without s.mark.marks p } }

/-- The owner's action at damage in a live word (R167). Damage in the station record makes the record absent at once; the
return to SETUP is taken at the release of the access, or at the end of work done in place (R168; log 10). -/
def ownerAction (r : Region) (s : State) : State :=
  match r with
  | .station => { s with link := { s.link with present := false }, store := { s.store with clearAtRelease := true } }
  | .slot n => damageSlot n s
  | .curve a p => damageCurve a p s
  | .entry i => freeEntry i s
  | .conf p => { s with conf := { s.conf with list := without s.conf.list p } }
  | .zone p => { s with conf := { s.conf with zones := without s.conf.zones p } }
  | .fifo p => damageFifo p s
  | .report p => damageRecord p s
  | .mark p => damageMark p s

/-- What wrong data taken for word `k` of an item makes of the item (log 7). Setup words hold their data themselves. DESIGN CHOICE
(log 7): the item alone is garbled, and the join order of its list or queue stands, although R165 has the owner keep that order in
the words of the region, without saying in which. -/
def garbleItem (r : Region) (k : Nat) (m : BitVec 39) (s : State) : State :=
  match r with
  | .station => s
  | .slot _ => s
  | .curve _ _ => s
  | .entry i =>
    { s with trk := { s.trk with entries := put s.trk.entries i (s.trk.entries[i].map fun e => Config.garbled e k m) } }
  | .conf p => { s with conf := { s.conf with list := change s.conf.list p fun e => Config.garbled e k m } }
  | .zone p => { s with conf := { s.conf with zones := change s.conf.zones p fun e => Config.garbled e k m } }
  | .fifo p => { s with link := { s.link with fifo := change s.link.fifo p fun e => Config.garbled e k m } }
  | .report p => { s with rep := { s.rep with records := change s.rep.records p fun e => Config.garbled e k m } }
  | .mark p => { s with mark := { s.mark with marks := change s.mark.marks p fun e => Config.garbled e k m } }

/-- A read that finds a double error (R167): it is counted; a live word is reported to its owner, a word that is not live
is written with zero data and fresh check bits. -/
def readDouble (a : Nat) (s : State) : State :=
  let s1 := s.count addStoreUncorrectable
  if live s1 (regionOf a).1 then ownerAction (regionOf a).1 s1 else s1.setWord a clearedWord

/-- One read of a word of any region (R166, R167). -/
def readWord (a : Nat) (s : State) : State × Option Word :=
  readWith (readDouble a) (garbleItem (regionOf a).1 (regionOf a).2) a s

/-- The reads of several words in order, ended by the first that finds a double error. -/
def readWords : List Nat → State → State × Option (List (Nat × Word))
  | [], s => (s, some [])
  | a :: rest, s =>
    match readWord a s with
    | (s1, none) => (s1, none)
    | (s1, some d) =>
      match readWords rest s1 with
      | (s2, none) => (s2, none)
      | (s2, some l) => (s2, some ((a, d) :: l))

/-- Whether a word is of the station record and the work in progress has given the record up: its words are no longer live, and no
block takes them as data (R165, R167, R168). -/
def recordGone (s : State) (a : Nat) : Bool := s.store.clearAtRelease && decide (a < 16)

/-- The reads of several words in order by work that goes on after damage (R167, R168): a word that returns no data gives a
free value (log 10). DEDUCED (log 35): a station record that this work has given up is read no more, and each of its words gives a
free value. -/
def readOn : List Nat → State → State × List (Nat × Word)
  | [], s => (s, [])
  | a :: rest, s =>
    let r := if recordGone s a then (s, none) else readWord a s
    let q := readOn rest r.1
    (q.1, (a, r.2.getD (Config.unreadable (s.word a).data (s.word a).changed)) :: q.2)

/-- The addresses of `size` words from a base. -/
def wordsFrom (base size : Nat) : List Nat := (List.range size).map (base + ·)

/-- A word among those read, zero where it was not read. -/
def pick (l : List (Nat × Word)) (a : Nat) : Word := (l.lookup a).getD 0

/-- Reads words `ks` of the station record; its fields in those words. -/
def readStation (ks : List Nat) (s : State) : State × Option StationRecord :=
  match readWords ks s with
  | (s1, none) => (s1, none)
  | (s1, some l) => (s1, some (stationOfWords ((List.range 8).map (pick l))))

/-- Reads words `ks` of the station record, going on after damage; its fields in those words. -/
def readStationOn (ks : List Nat) (s : State) : State × StationRecord :=
  let q := readOn ks s
  (q.1, stationOfWords ((List.range 8).map (pick q.2)))

/-- Reads words `ks` of the station record for work that goes on after damage, or for a shot's processing, which ends at it
(R168; log 35). -/
def readStationFor (on : Bool) (ks : List Nat) (s : State) : State × Option StationRecord :=
  if on then ((readStationOn ks s).1, some (readStationOn ks s).2) else readStation ks s

/-- Reads words `ks` of a slot's record; its fields in those words. -/
def readSlot (n : Slot) (ks : List Nat) (s : State) : State × Option SlotRecord :=
  match readWords (ks.map (slotBase n + ·)) s with
  | (s1, none) => (s1, none)
  | (s1, some l) => (s1, some (slotOfWords ((List.range 12).map fun k => pick l (slotBase n + k))))

/-- Reads words `ks` of a slot's record, going on after damage; its fields in those words. -/
def readSlotOn (n : Slot) (ks : List Nat) (s : State) : State × SlotRecord :=
  let q := readOn (ks.map (slotBase n + ·)) s
  (q.1, slotOfWords ((List.range 12).map fun k => pick q.2 (slotBase n + k)))

/-- Reads the words of an item of a collection. The item's fields are held by its owner; a read that finds damage
makes the owner give the item up. -/
def readItem (base size : Nat) (s : State) : State := (readWords (wordsFrom base size) s).1

/-- Writes words from an address on, each with fresh check bits (R166). -/
def writeWords : Nat → List Word → State → State
  | _, [], s => s
  | a, d :: rest, s => writeWords (a + 1) rest (s.setWord a ⟨d, 0⟩)

/-- Writes an item of a collection whole: its words take fresh check bits, so any error they held goes (R166). The fields
stand with the owner (log 7). -/
def writeItem (base size : Nat) (s : State) : State := writeWords base (List.replicate size 0) s

/-! Requests and the arbiter (R170, R171). -/

/-- Requests of the shot-processing requester that arise together. -/
def raiseTogether (rs : List ShotReq) (s : State) : State :=
  { s with store := { s.store with shotReqs := s.store.shotReqs ++ [rs] } }

/-- One request of the shot-processing requester. -/
def raise (r : ShotReq) (s : State) : State := raiseTogether [r] s

/-- One request that arises together with those raised since the list held `n` groups. -/
def raiseWith (n : Nat) (r : ShotReq) (s : State) : State :=
  let l := s.store.shotReqs
  { s with store := { s.store with shotReqs := l.take n ++ [(l.drop n).flatten ++ [r]] } }

/-- One request of the link receiver, behind those that wait. -/
def raiseRx (r : RxReq) (s : State) : State :=
  { s with store := { s.store with rxReqs := s.store.rxReqs ++ [r] } }

/-- One request of the link transmitter. -/
def raiseTx (r : TxReq) (s : State) : State :=
  { s with store := { s.store with txReqs := s.store.txReqs ++ [r] } }

/-- The requester the arbiter grants next (R171): an urgent scrub request before every other, then by priority. The scrub
request is urgent from the moment its wait count reaches 4 (R173). -/
def nextGrant (s : State) : Option Requester :=
  if s.store.scrubReq && (s.store.scrubUrgent || decide (4 ≤ s.store.scrubWait)) then some .scrubber
  else if !s.store.shotReqs.isEmpty then some .shot
  else if !s.store.rxReqs.isEmpty then some .receiver
  else if !s.store.txReqs.isEmpty then some .transmitter
  else if s.store.markerReq then some .marker
  else if s.store.scrubReq then some .scrubber
  else none

/-- Whether a requester holds the grant: its access is in progress. -/
def grants (s : State) (r : Requester) : Bool := s.store.grant == some r

/-- The grant of the store to a requester (R171). -/
def State.withGrant (s : State) (g : Option Requester) : State := { s with store := { s.store with grant := g } }

/-- The store granted to a requester (R171), with what stands at the grant: the run state (R174) and the groups that wait. A
granted scrub request is no longer waiting (R173); the other requests are taken from their lists by the command of their access
(log 3). -/
def grantTo (g : Requester) (s : State) : State :=
  { s with store := { s.store with
      grant := some g, grantRun := s.link.run, grantShots := s.store.shotReqs.length,
      scrubReq := s.store.scrubReq && g != .scrubber } }

/-- The arbiter (R171): a free store is granted to the request that goes first. -/
def arbitrate (s : State) : State :=
  if s.store.grant.isSome then s
  else
    match nextGrant s with
    | none => s
    | some g => grantTo g s

/-- The first request of a group that `f` accepts, and the group without it. -/
def takeFirst {α : Type} (f : ShotReq → Option α) : List ShotReq → Option (α × List ShotReq)
  | [] => none
  | r :: rest =>
    match f r with
    | some x => some (x, rest)
    | none => (takeFirst f rest).map fun y => (y.1, r :: y.2)

/-- Whether a request is an expiry test. -/
def isExpiry (r : ShotReq) : Bool :=
  match r with
  | .expiry _ _ => true
  | _ => false

/-- Whether a request may be taken before an expiry test that arose before it (DEDUCED, log 33): a closure's search, in a
shot's processing or a sweep (R139, R144), an in-zone question, and the turn's reads, without which the question of a round's
first shot could not go before its step's test (R146). A formation and another expiry test may not. -/
def mayPass (r : ShotReq) : Bool :=
  match r with
  | .formation _ _ _ _ => false
  | .turn _ _ => true
  | .zone _ _ => true
  | .processing => true
  | .expiry _ _ => false
  | .sweep _ => true

/-- What `f` accepts among the requests that may pass an expiry test. -/
def passing {α : Type} (f : ShotReq → Option α) (r : ShotReq) : Option α := if mayPass r then f r else none

/-- The first request that `f` accepts of the group that arose first, and the groups without it (R170). Behind a group of
expiry tests alone the requests that may pass it are taken too (log 33). -/
def takeGroups {α : Type} (f : ShotReq → Option α) : List (List ShotReq) → Option (α × List (List ShotReq))
  | [] => none
  | g :: rest =>
    match takeFirst f g with
    | some y => some (y.1, if y.2.isEmpty then rest else y.2 :: rest)
    | none => if g.all isExpiry then (takeGroups (passing f) rest).map fun y => (y.1, g :: y.2) else none

/-- Takes the granted request of the shot-processing requester: one of those that waited at the grant, since a request that
arises during an access waits (R171). -/
def takeShot {α : Type} (f : ShotReq → Option α) (s : State) : Option (α × State) :=
  if grants s .shot then
    (takeGroups f (s.store.shotReqs.take s.store.grantShots)).map fun y =>
      (y.1, { s with store := { s.store with shotReqs := y.2 ++ s.store.shotReqs.drop s.store.grantShots } })
  else none

/-- Takes the granted request of the link receiver when `f` accepts it. -/
def takeRx {α : Type} (f : RxReq → Option α) (s : State) : Option (α × State) :=
  if grants s .receiver then
    match s.store.rxReqs with
    | [] => none
    | r :: rest =>
      (f r).map fun x => (x, { s with store := { s.store with rxReqs := rest } })
  else none

/-- Takes the granted request of the link transmitter when `f` accepts it. -/
def takeTx {α : Type} (f : TxReq → Option α) (s : State) : Option (α × State) :=
  if grants s .transmitter then
    match s.store.txReqs with
    | [] => none
    | r :: rest =>
      (f r).map fun x => (x, { s with store := { s.store with txReqs := rest } })
  else none

/-- Turn reads and formations that wait lose the turn or the run they were raised for (R26, R30): requests are not
withdrawn, and these fire or form nothing when granted. -/
def staleTurns (s : State) : State :=
  { s with store := { s.store with shotReqs := s.store.shotReqs.map fun g => g.map fun r =>
      match r with | .turn n _ => .turn n false | x => x } }

/-- Formations raised in a run that has ended form no round (R17). -/
def staleFormations (s : State) : State :=
  { s with store := { s.store with shotReqs := s.store.shotReqs.map fun g => g.map fun r =>
      match r with | .formation o i p _ => .formation o i p false | x => x } }

end Sys2Proof.Machine
end

