-- ==== Sys2Proof/Machine/Odometry.lean ====
section
/-! DEFINITION. The Odometry Unit (01): decoding, counts, the step and the reversal, and the positions formed from Pc. -/

namespace Sys2Proof.Machine

/-- The place of a pair value in the cycle 00, 01, 11, 10 that counts +1 (R1). -/
def cyclePlace (ab : BitVec 2) : Nat :=
  match ab.toNat with
  | 0 => 0
  | 1 => 1
  | 3 => 2
  | _ => 3

/-- What a new pair value makes of the reference (R1, R2). -/
inductive Transition where
  | same
  | count (c : Dir)
  | illegal
deriving DecidableEq, Repr

/-- The decoding of a pair value against the reference: one place on is +1, one back is −1, two is both lines at once. -/
def decodePair (ref ab : BitVec 2) : Transition :=
  match (cyclePlace ab + 4 - cyclePlace ref) % 4 with
  | 0 => .same
  | 1 => .count .plus
  | 3 => .count .minus
  | _ => .illegal

/-- Dir as any block reads it (R11). A count that brought the reversal run to H has already given Dir its sense (R10),
also before its REVERSAL command is taken (log 1). -/
def readDir (o : Odometry) : Dir := if o.revReached then o.dir.flip else o.dir

/-- The station reference Pr = Pc + Ps for a position Pc (R12). -/
def stationRef (s : State) (pc : Int) : Int := pc + s.odo.ps

/-- The gun position Pc + Pg for a position Pc (R12). -/
def gunAt (s : State) (pc : Int) : Int := pc + s.mark.gunOffset

/-- A change of Pc offered to the Marker Unit: it widens the swept range to hold both gun positions and raises a test
request (R5, R159). -/
def offerChange (oldPc newPc : Int) (s : State) : State :=
  { s with
    mark := { s.mark with
      least := min s.mark.least (min (gunAt s oldPc) (gunAt s newPc))
      greatest := max s.mark.greatest (max (gunAt s oldPc) (gunAt s newPc))
      latest := gunAt s newPc }
    store := { s.store with markerReq := true } }

/-- The car position after a count, before the clamp (R5). -/
def countTarget (o : Odometry) (c : Dir) : Int := o.pc + c.sign * (o.countLen : Int)

/-- A count of sense `c` in the Odometry Unit: position and position-limit flag (R5, R6), then with Dir the step
accumulator (R7), against it the reversal run (R9). A count that reaches S or H is completed by STEP or REVERSAL. -/
def countOdo (o : Odometry) (c : Dir) : Odometry :=
  let target := countTarget o c
  let moved := { o with pc := clampPos target, posLimit := !inPosRange target }
  if c = o.dir then
    { moved with revRun := 0, acc := o.acc + 1, stepReached := decide (o.stepCounts ≤ o.acc + 1) }
  else
    { moved with acc := 0, revRun := o.revRun + 1, revReached := decide (o.hyst ≤ o.revRun + 1) }

/-- A count, with the change of Pc offered to the Marker Unit when Pc changed. -/
def takeCount (c : Dir) (s : State) : State :=
  let s1 := { s with odo := countOdo s.odo c }
  if s1.odo.pc = s.odo.pc then s1 else offerChange s.odo.pc s1.odo.pc s1

/-- The step index after a step: from 839 it wraps to 0 (R8). -/
def nextIndex (i : Nat) : Nat := if i = 839 then 0 else i + 1

/-- The formation request of a step event: in RUN with the POSITION trigger, which is read at the event (R17, R19; log 10). -/
def stepFormation (index : Nat) (s : State) : State × List ShotReq :=
  if s.link.run = .run then
    let q := readStationOn [0] s
    (q.1, if q.2.trigger = .position then [.formation .step (some index) s.odo.pc true] else [])
  else (s, [])

/-- The step event (R8): the index advances, the accumulator returns to 0, and the event goes to the Scheduler, the
Confirmation Unit (R143) and, in RUN, the status step count (R186; log 26). DESIGN CHOICE (log 43): a count that reaches the
status interval makes STATUS due at the STATUS_INTERVAL_REACHED command alone. -/
def takeStep (s : State) : State :=
  let index := nextIndex s.odo.index
  let s1 := { s with
    odo := { s.odo with index := index, acc := 0, stepReached := false }
    link := { s.link with stepCount := if s.link.run = .run then min 65535 (s.link.stepCount + 1) else s.link.stepCount } }
  let q := stepFormation index s1
  raiseTogether (q.2 ++ [.expiry s.odo.pc s.odo.dir]) q.1

/-- The reversal (R10): Dir takes the sense of the count, the run returns to 0, and the event goes to the tracker (R122)
and the Confirmation Unit (R144). -/
def takeReversal (s : State) : State :=
  let s1 := { s with odo := { s.odo with dir := s.odo.dir.flip, revRun := 0, revReached := false } }
  raiseTogether [.sweep .reversal, .expiry s.odo.pc s.odo.dir.flip] s1

/-- A count is whole (R7, R10, R11): what it reached is completed before the unit takes anything else (log 1). -/
def completeCount (s : State) : State :=
  let s1 := if s.odo.stepReached then takeStep s else s
  if s1.odo.revReached then takeReversal s1 else s1

/-- The unit's state at a STATION RESET (R15). -/
def odoStationReset (o : Odometry) : Odometry :=
  { o with acc := 0, revRun := 0, index := 0, stepReached := false, revReached := false }

/-- The unit's state at ARM NEW with a start position (R16). -/
def odoArmNew (start : Int) (o : Odometry) : Odometry :=
  { odoStationReset o with pc := clampPos start, posLimit := !inPosRange start }

/-- The working copies loaded from a stored station record (R4). -/
def odoLoad (r : StationRecord) (o : Odometry) : Odometry :=
  { o with countLen := r.countLen, stepCounts := r.stepCounts, hyst := r.hyst, ps := r.ps }

end Sys2Proof.Machine
end

