-- ==== Sys2Proof/Machine/Confirmation.lean ====
section
/-! DEFINITION. The Confirmation Unit (08): expiry by position, joins to the confirmation list, offers to the watch list, and the in-zone test. -/

namespace Sys2Proof.Machine

/-- Whether an item at `p` is expired (R143): Dir × (Pr − P) exceeds the station span, formed exactly. -/
def expired (dir : Dir) (pr : Int) (sp : Nat) (p : Int) : Bool := decide ((sp : Int) < dir.sign * (pr - p))

/-- Reads the words of every confirmation entry, oldest first; a damaged entry leaves (R147). -/
def readConf (s : State) : State :=
  (s.conf.list.map (·.place)).foldl (fun s p => readItem (confBase p) 4 s) s

/-- Reads the words of every watch zone, oldest first; a damaged zone leaves (R147). -/
def readZones (s : State) : State :=
  (s.conf.zones.map (·.place)).foldl (fun s p => readItem (zoneBase p) 4 s) s

/-- The confirmation list replaced. -/
def setConf (l : List (Placed ConfEntry)) (s : State) : State := { s with conf := { s.conf with list := l } }

/-- The watch list replaced. -/
def setZones (l : List (Placed Zone)) (s : State) : State := { s with conf := { s.conf with zones := l } }

/-- The expiry test of the confirmation list (R143). -/
def expireConf (dir : Dir) (pr : Int) (sp : Nat) (s : State) : State :=
  let s1 := readConf s
  setConf (s1.conf.list.filter fun x => !expired dir pr sp x.item.pos) s1

/-- The expiry test of the watch list (R143). -/
def expireZones (dir : Dir) (pr : Int) (sp : Nat) (s : State) : State :=
  let s1 := readZones s
  setZones (s1.conf.zones.filter fun x => !expired dir pr sp x.item.centre) s1

/-- The expiry test of both lists with the Pc and Dir of its event (R143, R144). DESIGN CHOICE (log 45): the word of the station
span is read at every test, also when both lists are empty and no item is held against it, so damage there acts at every step.
DEDUCED (log 50): while the station record is absent, when both lists are empty, nothing is read. -/
def testLists (pc : Int) (dir : Dir) (s : State) : State :=
  if s.link.present then
    let q := readStationOn [2] s
    expireZones dir (stationRef q.1 pc) q.2.span (expireConf dir (stationRef q.1 pc) q.2.span q.1)
  else s

/-- Whether two entries have one source station and indication number (R137, R138). -/
def sameSource (x y : ConfEntry) : Bool := x.station == y.station && x.number == y.number

/-- A repeat (R138): position and slot arrive, the mark is REPORTED when either is. -/
def refresh (old new : ConfEntry) : ConfEntry :=
  { old with pos := new.pos, slot := new.slot,
             mark := if old.mark = .reported ∨ new.mark = .reported then .reported else .weak }

/-- The place of the entry that leaves a full list (R137): the oldest WEAK one, else the head. -/
def evictPlace (l : List (Placed ConfEntry)) : Option Nat :=
  match l.find? fun x => x.item.mark == .weak with
  | some x => some x.place
  | none => l.head?.map (·.place)

/-- A new entry at the end of the join order in a free place, its words written. -/
def appendConf (e : ConfEntry) (s : State) : State :=
  let p := freePlace s.conf.list
  writeItem (confBase p) 4 (setConf (s.conf.list ++ [⟨p, e⟩]) s)

/-- The joining step of R137, after the expiry test: a repeat, a join, or a join in the place of an evicted entry. -/
def placeConf (e : ConfEntry) (s : State) : State :=
  match s.conf.list.find? fun x => sameSource x.item e with
  | some x => writeItem (confBase x.place) 4 (setConf (change s.conf.list x.place fun o => refresh o e) s)
  | none =>
    if s.conf.list.length < 24 then appendConf e s
    else
      match evictPlace s.conf.list with
      | some p => appendConf e (setConf (without s.conf.list p) s)
      | none => appendConf e s

/-- A join to the confirmation list, with Pc and Dir read at the join (R137). `on` tells whether the work goes on after damage
in the station record. -/
def confJoin (on : Bool) (e : ConfEntry) (s : State) : State :=
  match readStationFor on [2] s with
  | (s1, none) => s1
  | (s1, some st) =>
    let pr := stationRef s1 s1.odo.pc
    let dir := readDir s1.odo
    let s2 := expireConf dir pr st.span s1
    if expired dir pr st.span e.pos then s2 else placeConf e s2

/-- The zone of least distance to a centre, among those within `wz` of it; the one that joined earlier on ties (R141). -/
def nearestZone (centre : Int) (wz : Nat) : List (Placed Zone) → Option (Placed Zone)
  | [] => none
  | x :: rest =>
    let best := nearestZone centre wz rest
    let d := (x.item.centre - centre).natAbs
    if wz < d then best
    else
      match best with
      | none => some x
      | some y => if (y.item.centre - centre).natAbs < d then some y else some x

/-- A zone's distance ahead (R142). -/
def distanceAhead (dir : Dir) (pr : Int) (z : Zone) : Int := dir.sign * (z.centre - pr)

/-- The zone of greatest distance ahead, the one that joined earliest on ties (R142). -/
def farthestZone (dir : Dir) (pr : Int) : List (Placed Zone) → Option (Placed Zone)
  | [] => none
  | x :: rest =>
    match farthestZone dir pr rest with
    | none => some x
    | some y => if distanceAhead dir pr x.item < distanceAhead dir pr y.item then some y else some x

/-- A zone at the end of the join order in a free place, its words written. -/
def appendZone (z : Zone) (s : State) : State :=
  let p := freePlace s.conf.zones
  writeItem (zoneBase p) 4 (setZones (s.conf.zones ++ [⟨p, z⟩]) s)

/-- The joining step of R141 and R142, after the expiry test. -/
def placeZone (dir : Dir) (pr : Int) (wz : Nat) (z : Zone) (s : State) : State :=
  match nearestZone z.centre wz s.conf.zones with
  | some x =>
    writeItem (zoneBase x.place) 4
      (setZones (change s.conf.zones x.place fun o => { o with half := max o.half z.half }) s)
  | none =>
    if s.conf.zones.length < 8 then appendZone z s
    else
      match farthestZone dir pr s.conf.zones with
      | some y =>
        if distanceAhead dir pr z < distanceAhead dir pr y.item then
          appendZone z (setZones (without s.conf.zones y.place) s)
        else s
      | none => s

/-- The zone a WATCH frame offers, its half-width clamped (R140). -/
def offeredZone (centre : Int) (half : Nat) : Zone := { centre := centre, half := clampNat 8 4095 half }

/-- A zone offered to the watch list, with Pc and Dir read at the join (R141). An offered zone that is expired is ignored;
the list is tested for expiry all the same, as at each join (R143; log 36). DESIGN CHOICE (log 45): the words of the watch
half-width (words 4 and 5) are read with that of the station span at every offer, before the expiry test, also for an offered zone
that is expired or that meets an empty list. -/
def zoneOffer (z : Zone) (s : State) : State :=
  let q := readStationOn [2, 4, 5] s
  let pr := stationRef q.1 q.1.odo.pc
  let dir := readDir q.1.odo
  let s2 := expireZones dir pr q.2.span q.1
  if expired dir pr q.2.span z.centre then s2 else placeZone dir pr q.2.watchHalf z s2

/-- The in-zone test (R145). -/
def inZone (aim : Int) (l : List (Placed Zone)) : Bool :=
  l.any fun x => decide ((aim - x.item.centre).natAbs ≤ x.item.half)

end Sys2Proof.Machine
end

