-- ==== Sys2Proof/Machine/Coupling.lean ====
section
/-! DEFINITION. The Coupling Monitor (06): coverage gaps and their hand-over to the gap list (R188), the coupling test and state, and port faults. -/

namespace Sys2Proof.Machine

/-! The gap list of the Link Controller (11, R188). -/

/-- The gap list with the open record of the same slot and cause updated, when there is one. -/
def updateOpen (r : GapRecord) : List GapRecord → Option (List GapRecord)
  | [] => none
  | g :: rest =>
    if g.isOpen = true ∧ g.slot = r.slot ∧ g.cause = r.cause then
      some ({ g with toPos := r.toPos, isOpen := r.isOpen } :: rest)
    else (updateOpen r rest).map (g :: ·)

/-- Whether the untold mark of a slot and cause is set. -/
def untoldMark (s : State) (n : Slot) (c : GapCause) : Bool := (s.link.untold[n]).get c

/-- The untold mark of a slot and cause set or cleared. -/
def setUntold (n : Slot) (c : GapCause) (b : Bool) (s : State) : State :=
  { s with link := { s.link with untold := put s.link.untold n ((s.link.untold[n]).set c b) } }

/-- A gap record handed to the Link Controller (R106, R188). -/
def handOver (r : GapRecord) (s : State) : State :=
  match updateOpen r s.link.gapList with
  | some l => { s with link := { s.link with gapList := l } }
  | none =>
    if s.link.gapList.length < 8 then
      setUntold r.slot r.cause false { s with link := { s.link with gapList := s.link.gapList ++ [r] } }
    else
      let s1 := if untoldMark s r.slot r.cause then s
        else setUntold r.slot r.cause true (s.count addUntoldGaps)
      if r.isOpen then s1 else setUntold r.slot r.cause false s1

/-! Open gaps (06, R103 to R106). -/

/-- The open gap of a slot and cause. -/
def openGap (s : State) (n : Slot) (c : GapCause) : Option Gap := (s.coup.gaps[n]).get c

/-- The open gap of a slot and cause replaced. -/
def setGap (n : Slot) (c : GapCause) (g : Option Gap) (s : State) : State :=
  { s with coup := { s.coup with gaps := put s.coup.gaps n ((s.coup.gaps[n]).set c g) } }

/-- A gap opens from `start` to `pos`, or, when it is open, extends to `pos` with its from position kept; either change
is handed over. -/
def touchGap (n : Slot) (c : GapCause) (start pos : Int) (s : State) : State :=
  let g : Gap := match openGap s n c with
    | some old => { old with toPos := pos }
    | none => { fromPos := start, toPos := pos }
  handOver { slot := n, cause := c, fromPos := g.fromPos, toPos := g.toPos, isOpen := true } (setGap n c (some g) s)

/-- A skip acts on the gap of its slot and cause with the round position (R28, R103). -/
def skipGap (n : Slot) (c : GapCause) (pos : Int) (s : State) : State := touchGap n c pos pos s

/-- One open gap closes with the to position it has (R105, R106). -/
def closeGap (n : Slot) (c : GapCause) (s : State) : State :=
  match openGap s n c with
  | none => s
  | some g =>
    handOver { slot := n, cause := c, fromPos := g.fromPos, toPos := g.toPos, isOpen := false } (setGap n c none s)

/-- A valid shot closes every open gap of its slot (R105). The order among the causes is the layout's (log 22). -/
def closeGaps (n : Slot) (s : State) : State := allCauses.foldl (fun s c => closeGap n c s) s

/-! Port faults (R100, R101). -/

/-- The transmit check of a completed non-void shot for its transmit port (R100). -/
def transmitCheck (p : Port) (ok : Bool) (s : State) : State :=
  if s.coup.portFault[p] then s
  else if ok then { s with coup := { s.coup with noTransmit := put s.coup.noTransmit p 0 } }
  else
    let k := s.coup.noTransmit[p] + 1
    { s with coup := { s.coup with
        noTransmit := put s.coup.noTransmit p (min 3 k)
        portFault := if 3 ≤ k then put s.coup.portFault p true else s.coup.portFault } }

/-! The coupling test and state (R93 to R98). -/

/-- The coupling source amplitude of a shot, and whether the source asks for one (R93). -/
def sourceAmp (src : CouplingSource) (r : GateResults) : Option (Option Nat) :=
  match src with
  | .interface => some r.i.amp
  | .gateB => some r.b.amp
  | .none => none

/-- The coupling test (R93). -/
def couplingPass (src : CouplingSource) (threshold : Nat) (transmitted : Bool) (r : GateResults) : Bool :=
  transmitted && !r.noInterface &&
    match sourceAmp src r with
    | none => true
    | some none => false
    | some (some a) => decide (threshold ≤ a)

/-- What a tested shot does beside the change of state. -/
inductive CouplingAct where
  | nothing
  | enterLost
  | extend
deriving DecidableEq, Repr

/-- The change of a slot's coupling state at a tested shot that is neither void nor a settle shot (R95, R96). -/
def couplingNext (c : SlotCoupling) (pass : Bool) (lossRun recoveryRun : Nat) (firePos : Int) : SlotCoupling × CouplingAct :=
  match c.state, pass with
  | .coupled, true => (c, .nothing)
  | .coupled, false =>
    if lossRun ≤ 1 then ({ c with state := .lost }, .enterLost)
    else ({ c with state := .doubtful, failRun := 1, doubt := some firePos }, .nothing)
  | .doubtful, true => ({ c with state := .coupled, failRun := 0, doubt := none }, .nothing)
  | .doubtful, false =>
    if lossRun ≤ c.failRun + 1 then ({ c with state := .lost, failRun := 0 }, .enterLost)
    else ({ c with failRun := c.failRun + 1 }, .nothing)
  | .lost, true =>
    if recoveryRun ≤ 1 then ({ c with state := .coupled }, .nothing)
    else ({ c with state := .recovering, passRun := 1 }, .extend)
  | .lost, false => (c, .extend)
  | .recovering, true =>
    if recoveryRun ≤ c.passRun + 1 then ({ c with state := .coupled, passRun := 0 }, .nothing)
    else ({ c with passRun := c.passRun + 1 }, .extend)
  | .recovering, false => ({ c with state := .lost, passRun := 0 }, .extend)

/-- The coupling state of a slot replaced. -/
def setCoupling (n : Slot) (c : SlotCoupling) (s : State) : State :=
  { s with coup := { s.coup with slots := put s.coup.slots n c } }

/-- The COUPLING gap at entry to LOST: from the doubt position when one is held, which is then discarded (R104). -/
def openCouplingGap (n : Slot) (firePos : Int) (s : State) : State :=
  let c := s.coup.slots[n]
  setCoupling n { c with doubt := none } (touchGap n .coupling (c.doubt.getD firePos) firePos s)

/-- The coupling states at reset and at each ARM: COUPLED, runs 0, no doubt position, the source kept (R99, R92). -/
def freshCoupling (v : Vector SlotCoupling 12) : Vector SlotCoupling 12 :=
  allSlots.foldl (fun w n => put w n (SlotCoupling.fresh v[n].source)) v

/-- The monitor at ARM NEW and at STATION RESET: also every open gap cleared (R99, R101, R103). -/
def coupClear (c : CouplingUnit) : CouplingUnit :=
  { slots := freshCoupling c.slots, noTransmit := Vector.replicate 8 0, portFault := Vector.replicate 8 false,
    gaps := Vector.replicate 12 (PerCause.all none) }

/-- The monitor at ARM RESUME: the open gaps are kept (R99, R101, R103). -/
def coupResume (c : CouplingUnit) : CouplingUnit := { coupClear c with gaps := c.gaps }

end Sys2Proof.Machine
end

