-- ==== Sys2Proof/Machine/Link.lean ====
section
/-! DEFINITION. The Link Controller (11): reception tests, access to the line, the sources of frames, and the STATUS report. -/

namespace Sys2Proof.Machine

/-- A change of the Link Controller's state. -/
def State.setLink (s : State) (f : LinkUnit → LinkUnit) : State := { s with link := f s.link }

/-! Access to the line (R179). -/

/-- The idle wait in bit times, lengthened by the hold-off (R179). -/
def idleWait (holdOff : Bool) : Nat := if holdOff then 56 else 24

/-- This station's access delay in bit times (R179). -/
def accessDelay (strap : Fin 8) : Nat := strap.val * 4

/-- Whether the removal access of a sent head waits (R180). -/
def removalWaits (s : State) : Bool := s.store.txReqs.any (· == .removeHead false)

/-- The FIFO's entries that may still be chosen: a sent head whose removal waits does not make a frame ready (R180). -/
def fifoReady (s : State) : Bool := if removalWaits s then !s.link.fifo.tail.isEmpty else !s.link.fifo.isEmpty

/-- Whether the transmitter has a frame ready (R179). -/
def frameReady (s : State) : Bool :=
  fifoReady s || !s.rep.records.isEmpty || s.link.statusDue || !s.link.partsLeft.isEmpty || s.link.shotBuf.isSome

/-- IDLE WAIT, its wait counted afresh. -/
def toIdleWait (s : State) : State :=
  s.setLink fun l => { l with access := .idleWait, wait := some (idleWait l.holdOff) }

/-- In IDLE with a frame ready the access state becomes IDLE WAIT (R179). -/
def linkWake (s : State) : State := if s.link.access = .idle ∧ frameReady s then toIdleWait s else s

/-- Nothing to send: the access state is IDLE, or IDLE WAIT when a frame is ready (R179). DESIGN CHOICE (log 51): so also where no
source was taken though one still holds an item, since a source already passed in the order is not looked at again: behind a read
whose head has left (R153, R155, R180), and behind the entries of a FIFO whose sent head waits for its removal. -/
def toRest (s : State) : State :=
  linkWake (s.setLink fun l => { l with access := .idle, wait := none, tx := .none })

/-! The STATUS report (R186 to R189). -/

/-- The code of a run state. -/
def RunState.code : RunState → Nat
  | .setup => 0
  | .ready => 1
  | .run => 2
  | .hold => 3

/-- The code of a coupling state. -/
def CouplingState.code : CouplingState → Nat
  | .coupled => 0
  | .doubtful => 1
  | .lost => 2
  | .recovering => 3

/-- The code of a flat-gain mark. -/
def FlatGain.code : FlatGain → Nat
  | .clear => 0
  | .incomplete => 1
  | .order => 2
  | .damaged => 3

/-- The code of a coupling source. -/
def CouplingSource.code : CouplingSource → Nat
  | .interface => 0
  | .gateB => 1
  | .none => 2

/-- The code of a gap cause. -/
def GapCause.code : GapCause → Nat
  | .overrun => 0
  | .port => 1
  | .store => 2
  | .coupling => 3

/-- The transmit ports of the listed slots, read from their records as a report is built (R189; log 10). -/
def readPorts : List Slot → State → State × List (Slot × Port)
  | [], s => (s, [])
  | n :: rest, s =>
    let r := readSlotOn n [0] s
    let q := readPorts rest r.1
    (q.1, (n, r.2.txPort) :: q.2)

/-- The 16 bits of a slot in STATUS part 0, its transmit port given (R189). -/
def slotStatus (s : State) (n : Slot) (port : Port) : Nat :=
  s.coup.slots[n].state.code + 4 * s.coup.portFault[port].toNat + 8 * s.gain.flat[n].code
    + 32 * s.gates.offI[n].toNat + 64 * s.gates.offA[n].toNat + 128 * s.gates.offB[n].toNat
    + 256 * s.gates.syncOff[n].toNat + 512 * s.sched.zeroFailed[n].toNat + 1024 * s.coup.slots[n].source.code
    + 4096 * s.sched.storeDamaged[n].toNat

/-- The ten counts as bytes, in the order of R189. -/
def Counts.toBytes (c : Counts) : List Byte :=
  [c.reportsLost, c.watchesDropped, c.trackerSaturation, c.markerMissed, c.storeCorrected, c.storeUncorrectable,
    c.crcErrors, c.setupRefused, c.encoderErrors, c.untoldGaps].map byteOf

/-- Byte 0 of a STATUS part. -/
def statusHead (part parts : Nat) (r : RunState) : Byte := byteOf (part + 4 * parts + 16 * r.code)

/-- The parts of a report with `n` gap records (R186). -/
def partCount (n : Nat) : Nat := if n = 0 then 1 else if n ≤ 4 then 2 else 3

/-- STATUS part 0, the slots' transmit ports given (R189). -/
def statusPart0 (s : State) (ports : List (Slot × Port)) : List Byte :=
  [statusHead 0 (partCount s.link.gapList.length) s.link.run,
   byteOf ((readDir s.odo == .minus).toNat + 2 * s.rail.stuck.toNat + 4 * s.odo.posLimit.toNat + 8 * s.link.clash.toNat
     + 16 * s.link.present.toNat)]
    ++ s32Bytes s.odo.pc ++ ports.flatMap (fun x => u16Bytes (slotStatus s x.1 x.2)) ++ s.link.counts.toBytes
    ++ [byteOf s.link.gapList.length]

/-- The nine bytes of a gap record (R189). -/
def gapBytes (g : GapRecord) : List Byte :=
  byteOf (g.slot.val + 16 * g.cause.code + 64 * g.isOpen.toNat) :: (s32Bytes g.fromPos ++ s32Bytes g.toPos)

/-- STATUS part 1 or 2 with its gap records (R189). -/
def statusPartN (part parts : Nat) (r : RunState) (gs : List GapRecord) : List Byte :=
  [statusHead part parts r, byteOf gs.length] ++ gs.flatMap gapBytes

/-- The parts of a report beside part 0 (R186). -/
def statusRest (s : State) : List (List Byte) :=
  let gs := s.link.gapList
  let parts := partCount gs.length
  (if gs.isEmpty then [] else [statusPartN 1 parts s.link.run (gs.take 4)])
    ++ (if gs.length ≤ 4 then [] else [statusPartN 2 parts s.link.run (gs.drop 4)])

/-- A STATUS frame. -/
def statusFrame (s : State) (payload : List Byte) : List Byte := frameBytes 12 s.strap.val recorderNode payload

/-- What the build of a report leaves: due, step count, timer, counts, flag and closed gaps treated (R186 to R188). -/
def afterBuild (l : LinkUnit) : LinkUnit :=
  { l with statusDue := false, stepCount := 0, statusTimer := if l.run = .run then l.statusTimer else some statusPeriod,
           counts := Counts.zero, clash := false, gapList := l.gapList.filter (·.isOpen) }

/-- A report built from the current values: its part 0 goes out and the others are left (R186). DESIGN CHOICE (log 53): the slots'
transmit ports are read first (log 10), so an error which those reads find, and a store-damaged mark it sets, is told in this
report. -/
def buildStatus (s : State) : State :=
  let q := readPorts allSlots s
  q.1.setLink fun l =>
    { afterBuild l with partsLeft := statusRest q.1, tx := .sending .status (statusFrame q.1 (statusPart0 q.1 q.2)) }

/-! The choice of a source (R181, R153). -/

/-- A frame on the line. -/
def startFrame (kind : TxKind) (bytes : List Byte) (s : State) : State :=
  s.setLink fun l => { l with access := .sending, wait := none, tx := .sending kind bytes }

/-- The transmitter waits for its store read. -/
def startRead (r : TxReq) (s : State) : State :=
  raiseTx r (s.setLink fun l => { l with access := .sending, wait := none, tx := .reading })

/-- The SHOT frame buffer as source. -/
def chooseShot (s : State) : State :=
  match s.link.shotBuf with
  | some x =>
    startFrame .shot (frameBytes 13 s.strap.val recorderNode (shotBytes x)) (s.setLink fun l => { l with shotBuf := none })
  | none => toRest s

/-- The STATUS source, or those after it: a part left goes first, then a new report when STATUS is due. -/
def chooseStatus (s : State) : State :=
  match s.link.partsLeft with
  | p :: rest => startFrame .status (statusFrame s p) (s.setLink fun l => { l with partsLeft := rest })
  | [] =>
    if s.link.statusDue then buildStatus (s.setLink fun l => { l with access := .sending, wait := none })
    else chooseShot s

/-- The report queue, or the sources after it: its head becomes locked (R153). -/
def chooseReport (s : State) : State :=
  match s.rep.records with
  | r :: _ => startRead .readReport { s with rep := { s.rep with locked := some r.item.number } }
  | [] => chooseStatus s

/-- The outgoing watch FIFO, or the sources after it. It is passed over while the removal of a sent head waits (R180). -/
def chooseFifo (s : State) : State :=
  if s.link.fifo.isEmpty || removalWaits s then chooseReport s else startRead (.readFifo false) s

/-! The FIFO at the clearings (R180). -/

/-- The FIFO cleared: the head of a frame in transmission stays, and a waiting read or removal finds its head gone. -/
def fifoClear (s : State) : State :=
  match s.link.tx with
  | .sending .watch _ => s.setLink fun l => { l with fifo := l.fifo.take 1 }
  | _ =>
    { s with link := { s.link with fifo := [] }, store := { s.store with txReqs := headGone s.store.txReqs } }

/-! Reception (R176 to R178). -/

/-- Whether a frame is addressed to this station: its number, or 31 unless it is a STATION RESET (R178). -/
def addressed (s : State) (kind : Nat) (f : Frame) : Bool :=
  f.dest.toNat == s.strap.val || (f.dest.toNat == everyNode && kind != 8)

/-- Whether a kind and a source go together (R178): recorder kinds from 15, peer kinds from a station. -/
def pairing (kind : Nat) (f : Frame) : Bool :=
  if kind ≤ 9 then f.source.toNat == recorderNode
  else if kind ≤ 11 then decide (f.source.toNat < 8)
  else false

/-- The reception of a frame, `use` being what a frame that passes the tests does (R177, R178). Nothing is received in
SENDING (log 27). A payload of a length its kind does not require makes the frame malformed. -/
def receive (kind : Nat) (f : Frame) (use : State → State) (s : State) : State :=
  if s.link.access = .sending then s
  else if !lengthFits kind f.payload.length then s.count addCrcErrors
  else if !addressed s kind f then s
  else if f.source.toNat = s.strap.val then s.setLink fun l => { l with clash := true }
  else if pairing kind f then use s
  else s

end Sys2Proof.Machine
end

