-- ==== Sys2Proof/Machine/Marker.lean ====
section
/-! DEFINITION. The Marker Unit (09): offers, the test of the queue, firing, and the end of the output. -/

namespace Sys2Proof.Machine

/-- A change of the Marker Unit's state. -/
def State.setMark (s : State) (f : MarkerUnit → MarkerUnit) : State := { s with mark := f s.mark }

/-- A firing (R160). -/
def fireMark (pos : Int) (u : MarkerUnit) : MarkerUnit :=
  match u.mode with
  | .pulse => { u with on := true, pulseTimer := some u.pulse }
  | .level => { u with on := true, reference := some pos }

/-- Reads the words of every mark in join order; a damaged one leaves and is counted missed (R162). -/
def readMarks (s : State) : State :=
  (s.mark.marks.map (·.place)).foldl (fun s p => readItem (markBase p) 2 s) s

/-- Whether a held mark lies within mark spacing of a position, so that the offer merges (R158). The mark merged into is
left as it is, so which of several it is changes nothing. -/
def merges (spacing : Nat) (pos : Int) (l : List (Placed Mark)) : Bool :=
  l.any fun x => decide ((x.item.pos - pos).natAbs ≤ spacing)

/-- The mark that joins (R158). -/
def newMark (gun pos : Int) : Mark := { pos := pos, side := if gun < pos then .plus else .minus, fresh := true }

/-- A mark offered at a closure (R158). -/
def markOffer (pos : Int) (s : State) : State :=
  let gun := gunAt s s.odo.pc
  if pos = gun then s.setMark (fireMark pos)
  else
    let s1 := readMarks s
    if merges s1.mark.spacing pos s1.mark.marks then s1
    else if s1.mark.marks.length < 8 then
      let p := freePlace s1.mark.marks
      writeItem (markBase p) 2 (s1.setMark fun u => { u with marks := u.marks ++ [⟨p, newMark gun pos⟩] })
    else s1.count addMarkerMissed

/-- Whether a mark fires at a test (R159). -/
def reaches (least greatest latest : Int) (m : Mark) : Bool :=
  match m.side with
  | .plus => decide (m.pos ≤ (if m.fresh then latest else greatest))
  | .minus => decide ((if m.fresh then latest else least) ≤ m.pos)

/-- Whether the LEVEL output turns OFF at a test at which nothing fired (R161). -/
def levelEnds (u : MarkerUnit) : Bool :=
  u.mode == .level && u.on &&
    match u.reference with
    | some r => decide (u.length ≤ (u.latest - r).natAbs)
    | none => false

/-- The test of the queue on sound marks (R159 to R161). -/
def testMarks (u : MarkerUnit) : MarkerUnit :=
  let firing := u.marks.filter fun x => reaches u.least u.greatest u.latest x.item
  let left := (u.marks.filter fun x => !reaches u.least u.greatest u.latest x.item).map
    fun x => { x with item := { x.item with fresh := false } }
  let u1 := if firing.isEmpty && levelEnds u then { u with on := false, reference := none } else u
  let u2 := firing.foldl (fun v x => fireMark x.item.pos v) u1
  { u2 with marks := left, least := u.latest, greatest := u.latest }

/-- The unit's state with the output OFF, the timer stopped and no reference (R163). -/
def markOff (u : MarkerUnit) : MarkerUnit := { u with on := false, pulseTimer := none, reference := none }

/-- The unit's state with the queue emptied and the output OFF (R163). -/
def markClear (u : MarkerUnit) : MarkerUnit := { markOff u with marks := [] }

/-- The unit's state at ARM NEW with the gun position formed from the start position (R163). -/
def markArmNew (gun : Int) (u : MarkerUnit) : MarkerUnit :=
  { markClear u with least := gun, greatest := gun, latest := gun }

/-- The working copies loaded from a stored station record (R157). -/
def markLoad (r : StationRecord) (u : MarkerUnit) : MarkerUnit :=
  { u with gunOffset := r.gunOffset, mode := r.markerMode, pulse := r.markerPulse, length := r.markLength,
           spacing := r.markSpacing }

end Sys2Proof.Machine
end

