-- ==== Sys2Proof/Machine/Rail.lean ====
section
/-! DEFINITION. The Rail Claim Unit (03): the line as seen, claims, the arbitration delay, deferral, STUCK and abandonment. -/

namespace Sys2Proof.Machine

/-- The line is seen asserted when any station pulls it, this one included (R39). -/
def lineSeen (u : RailUnit) : Bool := u.drive || u.others

/-- The rank at the start of a delay (R42). -/
def rank (strap deferral : Nat) : Nat := if deferral < 2 then strap + 8 else strap

/-- The arbitration delay in µs (R42). -/
def arbitrationDelay (strap deferral : Nat) : Nat := 4 + 2 * rank strap deferral

/-- DELAY with the delay started afresh (R40, R41, R42). -/
def startDelay (strap : Nat) (u : RailUnit) : RailUnit :=
  { u with claim := .delay, delay := some (arbitrationDelay strap u.deferral) }

/-- A grant, won or under STUCK: the drive is asserted, the deferral count returns to 0, HOLDING (R44, R48); the stuck
timer is stopped from the grant on (R47). -/
def grantRail (u : RailUnit) : RailUnit :=
  { u with claim := .holding, delay := none, deferral := 0, drive := true, stuckTimer := none }

/-- A claim taken in IDLE (R40). The Boolean tells that it was granted at once under STUCK. A claim in any other state is
refused and the present claim kept. -/
def takeClaim (strap : Nat) (n : Slot) (u : RailUnit) : RailUnit × Bool :=
  if u.claim = .idle then
    let v := { u with slot := some n }
    if u.stuck then (grantRail v, true)
    else if lineSeen u then ({ v with claim := .waiting }, false)
    else (startDelay strap v, false)
  else (u, false)

/-- The stuck timer started from zero by an assertion of another station while STUCK is clear (R47). -/
def startStuck (u : RailUnit) : RailUnit := { u with stuckTimer := if u.stuck then u.stuckTimer else some 0 }

/-- An assertion by another station taken while the own drive is released (R39, R43, R46, R47). -/
def takeAssertion (u : RailUnit) : RailUnit :=
  if u.claim = .delay then
    startStuck { u with claim := .waiting, delay := none, deferral := min 15 (u.deferral + 1) }
  else startStuck u

/-- A release taken while the own drive is released: the timer stops, STUCK clears (R47, R49), a claim in WAITING starts
its delay (R41). -/
def takeRelease (strap : Nat) (u : RailUnit) : RailUnit :=
  let v := { u with stuckTimer := none, stuck := false }
  if u.claim = .waiting then startDelay strap v else v

/-- The unit's own release at the completion of a claiming shot: IDLE, and the line read afresh (R39, R45, R47, R49). -/
def ownRelease (u : RailUnit) : RailUnit :=
  let v := { u with claim := .idle, slot := none, delay := none, drive := false }
  if u.others then startStuck v else { v with stuckTimer := none, stuck := false }

/-- The abandonment of a claim in WAITING or DELAY (R50). -/
def abandonClaim (u : RailUnit) : RailUnit :=
  if u.claim = .waiting ∨ u.claim = .delay then { u with claim := .idle, slot := none, delay := none } else u

end Sys2Proof.Machine
end

