-- ==== Sys2Proof/Machine/Scheduler.lean ====
section
/-! DEFINITION. The Slot Scheduler (02): the walk, the fire, new rounds, overrun, completion, and leaving RUN. -/

namespace Sys2Proof.Machine

/-- A change of the Scheduler's state. -/
def State.setSched (s : State) (f : Scheduler → Scheduler) : State := { s with sched := f s.sched }

/-- Skips of several slots for one cause and round position (R28). DESIGN CHOICE (log 22): the undisposed due slots of a round
that ends or is replaced are skipped in ascending slot number, the order in which the round holds them; R26, R27 and R30 give
these skips as one act, without an order, and the order decides which gap records find room in a nearly full gap list. -/
def skipAll (c : GapCause) (pos : Int) (ns : List Slot) (s : State) : State :=
  ns.foldl (fun s n => skipGap n c pos s) s

/-- The walk over the due slots `ns` of a round (R23): a store-damaged slot is skipped STORE, the next one asks for its
turn's reads and the walk is READING. With no slot left the round ends and the walk is IDLE (R22). -/
def walkOn (r : Round) : List Slot → State → State
  | [], s => s.setSched fun u => { u with round := none, turn := none, walk := .idle }
  | n :: rest, s =>
    if s.sched.storeDamaged[n] then walkOn r rest (skipGap n .store r.pos s)
    else raise (.turn n true)
      (s.setSched fun u => { u with round := some { r with todo := n :: rest }, turn := none, walk := .reading })

/-- A round starts: its due slots become the round in flight (R22). -/
def startRound (r : Round) (s : State) : State := walkOn r r.due s

/-- With no round in flight and no shot in flight, a pending round starts (R22, R25). -/
def startPending (s : State) : State :=
  match s.sched.round, s.sched.shot, s.sched.pendingRound with
  | none, none, some p => startRound p (s.setSched fun u => { u with pendingRound := none })
  | _, _, _ => s

/-- The next turn of the round in flight; a finished or absent round ends and the pending round starts (R25). -/
def walkAgain (s : State) : State :=
  match s.sched.round with
  | some r => startPending (walkOn r r.todo s)
  | none => startPending (s.setSched fun u => { u with turn := none, walk := .idle })

/-- The slot at its turn is disposed of by a skip and the walk goes on (R23). -/
def skipTurn (c : GapCause) (s : State) : State :=
  match s.sched.round with
  | some r =>
    match r.todo with
    | n :: rest => startPending (walkOn r rest (skipGap n c r.pos s))
    | [] => s
  | none => s

/-- The fire of the slot at its turn (R24): the position latched, the shot's fields set, the listening started with the noise
floor as read now (R54; log 10) and the boost decision asked for (R65; log 12). -/
def fire (unclaimed : Bool) (s : State) : State :=
  match s.sched.round, s.sched.turn with
  | some r, some t =>
    match r.todo with
    | [] => s
    | n :: rest =>
      let shot : Shot :=
        { slot := n, firePos := s.odo.pc, settle := !s.sched.settled[n], unclaimed := unclaimed, void := false,
          turn := t, decision := none }
      let q := readStationOn [2] s
      let s1 := q.1.setSched fun u =>
        { u with round := some { r with todo := rest }, turn := none, walk := .shot, shot := some shot }
      raise (.zone n s.odo.pc)
        { s1 with gain := { s1.gain with listening := some { port := t.rxPort, noiseFloor := q.2.noiseFloor } } }
  | _, _ => s

/-- A claim for the slot at its turn: granted at once under STUCK it fires, otherwise the walk is CLAIMING (R23, R40, R48). -/
def claimTurn (n : Slot) (s : State) : State :=
  let c := takeClaim s.strap.val n s.rail
  let s1 := { s with rail := c.1 }.setSched fun u => { u with walk := .claiming }
  if c.2 then fire true s1 else s1

/-- The due slots of a round at its end without a fire: those not yet disposed of are skipped OVERRUN (R26, R30). -/
def endRound (handOn : Bool) (s : State) : State :=
  let s1 := match s.sched.round with
    | some r => if handOn then skipAll .overrun r.pos r.todo s else s
    | none => s
  staleTurns ({ s1 with rail := abandonClaim s1.rail }.setSched fun u =>
    { u with round := none, turn := none, walk := if u.shot.isSome then .shot else .idle })

/-- The pending round is dropped or replaced: its due slots are skipped OVERRUN (R27, R30). -/
def dropPending (handOn : Bool) (s : State) : State :=
  let s1 := match s.sched.pendingRound with
    | some p => if handOn then skipAll .overrun p.pos p.due s else s
    | none => s
  s1.setSched fun u => { u with pendingRound := none }

/-- A newly formed round (R22, R26, R27): it overruns the round in flight; it replaces a pending round; it waits for a
shot in flight, or starts at once. -/
def newRound (r : Round) (s : State) : State :=
  let s1 := if s.sched.round.isSome then endRound true s else s
  if s1.sched.shot.isSome then
    (dropPending true s1).setSched fun u => { u with pendingRound := some r }
  else startRound r s1

/-- The Scheduler at the moment the station leaves RUN (R30). `handOn` tells whether the skips go to the Coupling Monitor. -/
def leaveRun (handOn : Bool) (s : State) : State :=
  let s1 := dropPending handOn (endRound handOn s)
  staleFormations (s1.setSched fun u =>
    { u with shot := u.shot.map fun x => { x with void := true }, repTimer := none,
             walk := if u.shot.isSome then .shot else .idle })

/-- Every slot unsettled and its zero-failed mark clear (R31, R34). -/
def unsettle (u : Scheduler) : Scheduler :=
  { u with settled := Vector.replicate 12 false, zeroFailed := Vector.replicate 12 false }

/-- The working wedge delay of a slot loaded from its record (R18; logs 10, 31). -/
def loadWedge (s : State) (n : Slot) : State :=
  let q := readSlotOn n [2] s
  q.1.setSched fun u => { u with wedge := put u.wedge n (min 4095 q.2.wedge) }

/-- The repetition timer as the station enters RUN: started with the period under the TIMER trigger (R20; log 10). -/
def armTimer (s : State) : State :=
  let q := readStationOn [0, 1] s
  q.1.setSched fun u => { u with repTimer := if q.2.trigger = .timer then some q.2.period else none }

/-- A record that waits, or that the Gain Unit takes at once with its flat-gain mark (R62), at the completion of a non-void
shot (R57). The request of its held access arises together with those raised since the list held `n` groups. -/
def deliverRecord (n : Nat) (rec : ShotRecord) (s : State) : State :=
  match s.gain.processing with
  | none =>
    raiseWith n .processing { s with gain := { s.gain with
      processing := some rec, takenFlat := decide (s.gain.flat[rec.slot] ≠ .clear) } }
  | some _ =>
    if s.gain.queue.length < 4 then { s with gain := { s.gain with queue := s.gain.queue ++ [rec] } }
    else skipGap rec.slot .overrun rec.firePos s

/-- The shot record of a completed shot (R53, R55, R56). -/
def recordOf (sh : Shot) (floor : Nat) (transmitted : Bool) (samples : List (Nat × Nat)) : ShotRecord :=
  let pl := peakList floor sh.turn.quiet samples
  { slot := sh.slot, firePos := sh.firePos, settle := sh.settle, unclaimed := sh.unclaimed, autoZero := sh.turn.autoZero,
    transmitted := transmitted, peaks := pl.1, overflow := pl.2, decision := sh.decision }

/-- What a non-void completion does beside the walk: the transmit check (R100) and the settling of the slot (R32). -/
def completeChecks (sh : Shot) (transmitted : Bool) (s : State) : State :=
  let s1 := transmitCheck sh.turn.txPort transmitted s
  if sh.settle then s1.setSched fun u => { u with settled := put u.settled sh.slot true } else s1

/-- The completion of the shot in flight (R25): the line released if the shot held it, the checks taken, the walk moved
on, and the record of a shot that is not void delivered. DESIGN CHOICE (log 39): the skips that the walk makes as it moves on
come before the OVERRUN act of a record that finds the queue full (R57, R103). -/
def completeShot (sh : Shot) (transmitted : Bool) (samples : List (Nat × Nat)) (s : State) : State :=
  let floor := match s.gain.listening with | some l => l.noiseFloor | none => 0
  let s1 := { s with rail := if s.rail.claim = .holding then ownRelease s.rail else s.rail,
                     gain := { s.gain with listening := none } }
  let s2 := if sh.void then s1 else completeChecks sh transmitted s1
  let s3 := walkAgain (s2.setSched fun u => { u with shot := none })
  if sh.void then s3
  else deliverRecord s2.store.shotReqs.length (recordOf sh floor transmitted samples) s3

end Sys2Proof.Machine
end

