-- ==== Sys2Proof/Machine/RunControl.lean ====
section
/-! DEFINITION. Run Control (11): changes of the run state, ARM, HALT, END, STATION RESET, and the end of work that has used the store. -/

namespace Sys2Proof.Machine

/-- The status timer at a change of run state: stopped in RUN, restarted with 1 s at leaving RUN, else running on (R186). -/
def timerAt (old new : RunState) (t : Option Nat) : Option Nat :=
  if new = .run then none else if old = .run then some statusPeriod else t

/-- A change of run state: STATUS due, the status step count 0, the status timer (R184, R186). -/
def setRun (r : RunState) (s : State) : State :=
  s.setLink fun l =>
    { l with run := r, statusDue := true, stepCount := 0, statusTimer := timerAt l.run r l.statusTimer }

/-- The untold marks all clear. -/
def noUntold : Vector (PerCause Bool) 12 := Vector.replicate 12 (PerCause.all false)

/-- The clearing of the stored collections and their marks at a STATION RESET (R134, R150, R156, R163, R175, R180). -/
def clearCollections (s : State) : State :=
  fifoClear
    { s with trk := TrackerUnit.powerOn, conf := ConfUnit.powerOn, rep := ReportUnit.powerOn, mark := markClear s.mark }

/-- The Scheduler at a STATION RESET (R31, R34, R35, R36, R38), after it has left RUN. -/
def schedReset (u : Scheduler) : Scheduler :=
  { unsettle u with storeDamaged := Vector.replicate 12 false, request := none }

/-- The Link Controller at a STATION RESET (R185, R186). -/
def linkReset (l : LinkUnit) : LinkUnit :=
  { l with run := .setup, statusDue := true, partsLeft := [], stepCount := 0, statusTimer := some statusPeriod,
           counts := Counts.zero, clash := false, gapList := [], untold := noUntold, shotBuf := none }

/-- Every block's state at a STATION RESET frame, but for the stored collections, which its clearing access empties (R175;
log 16). -/
def stationReset (s : State) : State :=
  let s1 := fifoClear (leaveRun false s)
  { s1 with
    odo := odoStationReset s1.odo
    sched := schedReset s1.sched
    rail := { s1.rail with deferral := 0 }
    gain := { s1.gain with pieces := Vector.replicate 8 (Vector.replicate 4 false) }
    coup := coupClear s1.coup
    mark := markOff s1.mark
    link := linkReset s1.link }

/-- Every block's state at the return to SETUP after damage to the station record, the collections included (R168). -/
def stationClear (s : State) : State := clearCollections (stationReset (completeCount s))

/-- Damage met in the station record clears the station at the end of the work that met it (R168), and the STATUS of the
change may wake the transmitter (R179). -/
def clearDamage (s : State) : State :=
  if s.store.clearAtRelease then
    let s1 := stationClear s
    linkWake { s1 with store := { s1.store with clearAtRelease := false } }
  else s

/-- The end of work that may have met damage in the station record or raised requests: the clearing of R168, before any
further grant, and the arbiter's grant of a free store (R171). -/
def finish (s : State) : State := arbitrate (clearDamage s)

/-- The release of an access: the store is free, damage met in it takes its effect (R168), the arbiter grants among the
requests that wait (R171), and frames that became ready wake the transmitter (R179). -/
def release (s : State) : State := linkWake (finish (s.withGrant none))

/-- A count that has reached a step or a reversal is completed, with the grant of what it asks for (log 1). -/
def settleCount (s : State) : State :=
  if s.odo.stepReached || s.odo.revReached then finish (completeCount s) else s

/-- The rail claim's deferral count at each ARM (R46). -/
def noDeferral (u : RailUnit) : RailUnit := { u with deferral := 0 }

/-- The report queue at ARM NEW: in HOLD every waiting record leaves and the locked one stays (R156). -/
def reportsArmNew (s : State) : ReportUnit :=
  if s.link.run = .hold then
    { s.rep with records := if s.rep.locked.isSome then s.rep.records.take 1 else [] }
  else s.rep

/-- ARM NEW taken in READY or HOLD (R16, R18, R20, R31, R34, R46, R99, R134, R149, R156, R163, R184). The setup fields that
it loads are read with the counts already cleared (log 10). -/
def armNewBody (start : Int) (s0 : State) : State :=
  let s := fifoClear s0
  let odo := odoArmNew start s.odo
  armTimer (allSlots.foldl loadWedge (setRun .run
    { s with
      odo := odo
      sched := unsettle s.sched
      rail := noDeferral s.rail
      coup := coupClear s.coup
      trk := TrackerUnit.powerOn
      conf := ConfUnit.powerOn
      rep := reportsArmNew s
      mark := markArmNew (odo.pc + s.mark.gunOffset) s.mark
      link := { s.link with counts := Counts.zero, clash := false, gapList := [], untold := noUntold } }))

/-- ARM RESUME taken in HOLD (R16, R18, R20, R31, R34, R46, R99, R101, R103). DESIGN CHOICE (log 18): entries whose HALT sweep
still waits stay open in RUN until it closes them. -/
def armResumeBody (s : State) : State :=
  armTimer (setRun .run
    { s with
      sched := unsettle s.sched
      rail := noDeferral s.rail
      coup := coupResume s.coup })

/-- HALT taken in RUN (R30, R123, R184). -/
def haltBody (s : State) : State := setRun .hold (raise (.sweep .halt) (leaveRun true s))

/-- END taken in RUN or HOLD (R30, R35, R36, R123, R149, R163, R180, R184). -/
def endBody (s : State) : State :=
  let s1 := fifoClear (if s.link.run = .run then leaveRun true s else s)
  setRun .ready
    (raise (.sweep .runEnd)
      { s1 with
        sched := { s1.sched with storeDamaged := Vector.replicate 12 false, request := none }
        conf := ConfUnit.powerOn
        mark := markClear s1.mark })

end Sys2Proof.Machine
end

