-- ==== Sys2Proof/Machine/ExecLink.lean ====
section
/-! DEFINITION. Meanings: frames of peers, malformed frames, the line, and the transmitter. -/

namespace Sys2Proof.Machine

/-- MALFORMED_FRAME (R177): bytes that make a malformed frame are dropped and counted; nothing is received in SENDING. -/
def execMalformedFrame (bytes : List Byte) (s : State) : Out :=
  .next (if s.link.access ≠ .sending ∧ frameMalformed bytes then s.count addCrcErrors else s)

/-- LINE_ACTIVITY (R179): the idle wait is counted afresh, a delay falls back to IDLE WAIT, and activity of another node
clears the hold-off. -/
def execLineActivity (fromOther : Bool) (s : State) : Out :=
  let s1 := (linkWake s).setLink fun l => { l with holdOff := l.holdOff && !fromOther }
  .next (match s1.link.access with
    | .idleWait => toIdleWait s1
    | .delay => toIdleWait s1
    | .idle => s1
    | .sending => s1)

/-- A peer's frame that passes the tests asks for its join when the station record is present (R178). -/
def joinWhenPresent (r : RxReq) (s : State) : State := if s.link.present then arbitrate (raiseRx r s) else s

/-- INDICATION (R178, R135). -/
def execIndication (f : Frame) (s : State) : Out :=
  .next (receive 10 f (joinWhenPresent (.indication f.source.toNat f.payload)) s)

/-- WATCH (R178, R135, R140). -/
def execWatch (f : Frame) (s : State) : Out :=
  .next (receive 11 f (joinWhenPresent (.watch f.source.toNat f.payload)) s)

/-- PEER_STATUS_FRAME (R178): ignored, but for its tests. -/
def execPeerStatusFrame (f : Frame) (s : State) : Out := .next (receive 12 f (fun s => s) s)

/-- PEER_SHOT_FRAME (R178): ignored, but for its tests. -/
def execPeerShotFrame (f : Frame) (s : State) : Out := .next (receive 13 f (fun s => s) s)

/-- What a peer's frame brings: its rail, its confirmation entry and the zone it offers (R135, R140, R189). -/
structure PeerJoin where
  railCode : Nat
  entry : ConfEntry
  zone : Option Zone
deriving DecidableEq, Repr

/-- The join of a waiting peer frame. -/
def asPeer : RxReq → Option PeerJoin
  | .indication src p =>
    some { railCode := (bit (byteAt p 3) 6).toNat
           entry := { station := src, slot := bits (byteAt p 3) 0 4, number := u16At p 1, pos := s32At p 12, mark := .reported }
           zone := none }
  | .watch src p =>
    some { railCode := byteAt p 0
           entry := { station := src, slot := byteAt p 9, number := u16At p 7, pos := s32At p 1, mark := .weak }
           zone := some (offeredZone (s32At p 1) (u16At p 5)) }
  | _ => none

/-- Whether a peer's frame is joined (R136, R178): the same rail, and RUN or HOLD under the POSITION trigger. -/
def admits (st : StationRecord) (railCode : Nat) (s : State) : Bool :=
  s.link.present && railCode == st.railRight.toNat && (s.link.run == .run || s.link.run == .hold)
    && st.trigger == .position

/-- The joins of a peer's frame (R137, R141). DEDUCED (log 50): a frame whose access comes with the station record absent is
ignored (R178), and nothing is read for it. -/
def joinPeer (j : PeerJoin) (s : State) : State :=
  if s.link.present then
    let q := readStationOn [0] s
    if admits q.2 j.railCode q.1 then
      let s1 := confJoin true j.entry q.1
      match j.zone with
      | some z => zoneOffer z s1
      | none => s1
    else q.1
  else s

/-- PEER_FRAME_JOIN (R135 to R142, R178): the granted access of a peer's frame. -/
def execPeerFrameJoin (s : State) : Out :=
  .next (match takeRx asPeer s with
    | none => s
    | some (j, s1) => release (joinPeer j s1))

/-- STATUS_INTERVAL_REACHED (R186): in RUN the status interval is read (log 10), and STATUS becomes due when the status step
count has reached it. DESIGN CHOICE (log 43): this command alone makes STATUS due so, and nothing completes it before other
events. -/
def execStatusIntervalReached (s : State) : Out :=
  .next (if s.link.run = .run then
      match readStation [7] s with
      | (s1, none) => linkWake (finish s1)
      | (s1, some r) =>
        if r.statusInterval ≤ s.link.stepCount then linkWake (finish (s1.setLink fun l => { l with statusDue := true })) else s1
    else s)

/-- STATUS_TIMER_EXPIRY (R186): STATUS becomes due and the timer restarts at once with 1 s. -/
def execStatusTimerExpiry (s : State) : Out :=
  .next (if s.link.statusTimer.isSome then
      linkWake (s.setLink fun l => { l with statusDue := true, statusTimer := some statusPeriod })
    else s)

/-- IDLE_WAIT_EXPIRY (R179): the line has been idle for the wait; DELAY starts and the hold-off clears. -/
def execIdleWaitExpiry (s : State) : Out :=
  let s1 := linkWake s
  .next (if s1.link.access = .idleWait then
      s1.setLink fun l => { l with access := .delay, holdOff := false, wait := some (accessDelay s.strap) }
    else s1)

/-- ACCESS_DELAY_EXPIRY (R179, R181): the source is chosen. -/
def execAccessDelayExpiry (s : State) : Out :=
  .next (if s.link.access = .delay then arbitrate (chooseFifo s) else s)

/-- The transmitter's read requests. -/
def asRead : TxReq → Option (Option Bool)
  | .readReport => some none
  | .readFifo gone => some (some gone)
  | .removeHead _ => none

/-- The transmitter's read of the locked record (R153, R155). -/
def readLocked (s : State) : State :=
  match s.rep.locked, s.rep.records with
  | some _, r :: _ =>
    let s1 := readItem (reportBase r.place) 11 s
    match s1.rep.locked, s1.rep.records with
    | some _, q :: _ =>
      startFrame .indication (frameBytes 10 s1.strap.val everyNode (indicationBytes q.item)) s1
    | _, _ => chooseStatus s1
  | _, _ => chooseStatus { s with rep := { s.rep with locked := none } }

/-- The transmitter's read of the FIFO's head (R180, R167). -/
def readHead (gone : Bool) (s : State) : State :=
  match gone, s.link.fifo with
  | false, w :: _ =>
    let s1 := readItem (fifoBase w.place) 4 s
    match s1.link.fifo.find? fun x => x.place == w.place with
    | some q => startFrame .watch (frameBytes 11 s1.strap.val everyNode (watchBytes q.item)) s1
    | none => chooseReport s1
  | _, _ => chooseReport s

/-- TRANSMITTER_READ (R153, R155, R180): the granted read of the chosen head; a head that has left sends the transmitter on
to the next source. -/
def execTransmitterRead (s : State) : Out :=
  .next (match takeTx asRead s with
    | none => s
    | some (none, s1) => release (readLocked s1)
    | some (some gone, s1) => release (readHead gone s1))

/-- The locked record leaves at the end of its frame (R154). -/
def endReport (s : State) : State :=
  match s.rep.locked with
  | some _ => { s with rep := { records := s.rep.records.tail, locked := none } }
  | none => s

/-- What the end of a frame asks of its source (R154, R180). -/
def endOf (k : TxKind) (s : State) : State :=
  match k with
  | .indication => endReport s
  | .watch => if s.link.fifo.isEmpty then s else raiseTx (.removeHead false) s
  | .status => s
  | .shot => s

/-- TRANSMISSION_END (R154, R179, R180): the hold-off is set; IDLE WAIT when a frame is ready, else IDLE. -/
def execTransmissionEnd (s : State) : Out :=
  .next (match s.link.tx with
    | .sending k _ => arbitrate (toRest ((endOf k s).setLink fun l => { l with holdOff := true }))
    | .reading => s
    | .none => s)

/-- The removal requests. -/
def asRemoval : TxReq → Option Bool
  | .removeHead gone => some gone
  | _ => none

/-- The removal of a sent head (R180): its words are read in the same access, while it is still the sent head (log 23). -/
def removeSent (s : State) : State :=
  match s.link.fifo with
  | [] => s
  | w :: _ =>
    let s1 := readItem (fifoBase w.place) 4
      { s with store := { s.store with txReqs := .removeHead false :: s.store.txReqs } }
    { s1 with link := { s1.link with fifo := s1.link.fifo.tail }, store := { s1.store with txReqs := s1.store.txReqs.tail } }

/-- FIFO_REMOVAL (R180): the granted removal of a sent head. A head that a clearing has removed is gone already. -/
def execFifoRemoval (s : State) : Out :=
  .next (match takeTx asRemoval s with
    | none => s
    | some (gone, s1) => release (if gone then s1 else removeSent s1))

end Sys2Proof.Machine
end

