-- ==== Sys2Proof/Machine/ExecPosition.lean ====
section
/-! DEFINITION. Meanings: power-on and the RESET pin, the encoder, the step and the reversal, the marker's test and pulse. -/

namespace Sys2Proof.Machine

/-- POWER_ON_RESET (R175, and R3, R14, R38, R49, R57, R99, R134, R150, R156, R163, R179, R185): every block at its reset
values, with the pins as they stand. The queue of commands is the sender's. DESIGN CHOICE (log 54): the access state is left IDLE,
and a later command takes it to IDLE WAIT. -/
def execPowerOnReset (encoder : BitVec 2) (railPulled : Bool) (straps : Fin 8) (s : State) : Out :=
  .next { State.powerOn encoder railPulled straps with pending := s.pending }

/-- The Rail Claim Unit as the RESET pin ends a shot in flight (R45). DESIGN CHOICE (log 15): a claim in WAITING or DELAY, of
which R45 does not speak, returns to IDLE with it, while the walk stays CLAIMING until the pin's release. -/
def railPinReset (u : RailUnit) : RailUnit := { u with claim := .idle, slot := none, delay := none, drive := false }

/-- The transmitter cut off by the RESET pin (R179). -/
def linkPinReset (l : LinkUnit) : LinkUnit := { l with access := .idle, holdOff := false, wait := none, tx := .none }

/-- RESET_PIN_ASSERTED (R45, R179): the shot in flight ends, the line drive is released and a transmission is cut off.
Everything else takes its reset value at the release of the pin (log 15). -/
def execResetPinAsserted (s : State) : Out :=
  .next
    { s with
      resetPin := true
      sched := { s.sched with shot := none, walk := if s.sched.walk = .shot then .idle else s.sched.walk }
      gain := { s.gain with listening := none }
      rail := railPinReset s.rail
      link := linkPinReset s.link }

/-- ENCODER_TRANSITION (R1, R2, R5 to R7, R9): the pair is decoded against the reference. A count before it that reached a
step or a reversal is completed first; the requests of a count that reaches one arise with those of its STEP or REVERSAL
(log 1). -/
def execEncoderTransition (pair : BitVec 2) (s : State) : Out :=
  let s1 := settleCount s
  .next (match decodePair s1.odo.ref pair with
    | .same => s1
    | .illegal => ({ s1 with odo := { s1.odo with ref := pair } } : State).count addEncoderErrors
    | .count c =>
      let s2 := takeCount c { s1 with odo := { s1.odo with ref := pair } }
      if s2.odo.stepReached || s2.odo.revReached then s2 else arbitrate s2)

/-- STEP (R8): due when a count has brought the step accumulator to S. -/
def execStep (s : State) : Out := .next (if s.odo.stepReached then finish (takeStep s) else s)

/-- REVERSAL (R10): due when a count has brought the reversal run to H. -/
def execReversal (s : State) : Out := .next (if s.odo.revReached then arbitrate (takeReversal s) else s)

/-- MARKER_TEST (R159 to R162): the granted test access of the Marker Unit. -/
def execMarkerTest (s : State) : Out :=
  .next (if grants s .marker then
      release ((readMarks { s with store := { s.store with markerReq := false } }).setMark testMarks)
    else s)

/-- MARKER_PULSE_EXPIRY (R160): the pulse timer runs out, the output turns OFF and the timer stops. -/
def execMarkerPulseExpiry (s : State) : Out :=
  .next (if s.mark.pulseTimer.isSome then s.setMark fun u => { u with on := false, pulseTimer := none } else s)

end Sys2Proof.Machine
end

