-- ==== Sys2Proof/Machine/Gain.lean ====
section
/-! DEFINITION. The Gain Unit (04): curve areas and their check, curve gain, total gain and gained amplitude. -/

namespace Sys2Proof.Machine

/-- Every piece, ascending. -/
def allPieces : List Piece := [0, 1, 2, 3]

/-- An area is complete when all four of its piece-written flags are set. -/
def areaComplete (v : Vector Bool 4) : Bool := allPieces.all fun p => v[p]

/-- The increment of a segment, formed exactly and truncated toward zero (R64). -/
def segmentGain (a b : Nat × Int) (t : Nat) : Int :=
  a.2 + ((b.2 - a.2) * ((t : Int) - (a.1 : Int))).tdiv ((b.1 : Int) - (a.1 : Int))

/-- The curve gain at an echo time (R63): flat before the first point and from the last, a segment between. -/
def curveGain : List (Nat × Int) → Nat → Int
  | [], _ => 0
  | [p], _ => p.2
  | p :: q :: rest, t =>
    if t ≤ p.1 then p.2
    else if t < q.1 then segmentGain p q t
    else curveGain (q :: rest) t

/-- The gain table M (R67). -/
def gainTable : List Nat := [1024, 1085, 1149, 1217, 1289, 1366, 1446, 1532, 1623, 1719, 1821, 1929]

/-- The total gain before the clamp (R66). -/
def gainSum (base : Nat) (curve : Int) (boost : Nat) : Int := (base : Int) + curve + (boost : Int)

/-- The total gain, clamped to 0 to 120 hdB (R66). -/
def totalGain (base : Nat) (curve : Int) (boost : Nat) : Nat := (clampInt 0 120 (gainSum base curve boost)).toNat

/-- The amplitude before the min, formed exactly (R67, R68). -/
def unclampedAmp (raw g : Nat) : Nat := raw * gainTable.getD (g % 12) 0 * 2 ^ (g / 12) / 262144

/-- The gained amplitude (R68). -/
def gainedAmp (raw g : Nat) : Nat := min 1000 (unclampedAmp raw g)

/-- One gained peak (R66 to R69). -/
def gainPeak (base boost : Nat) (flatGain watch : Bool) (curve : Nat → Int) (p : Peak) : GainedPeak :=
  let c := curve p.time
  let g := totalGain base c boost
  { time := p.time, raw := p.raw, curveGain := c, totalGain := g, amp := gainedAmp p.raw g,
    saturated := decide (1000 ≤ unclampedAmp p.raw g),
    gainClamped := decide (gainSum base c boost < 0) || decide (120 < gainSum base c boost),
    flatGain := flatGain, watch := watch }

/-- The read of all sixteen points of a curve area, in point order, ended by damage (R60, R61, R70). -/
def readCurve (a : Area) (s : State) : State × Option (List (Nat × Int)) :=
  match readWords ((List.range 16).map (pointAddr a)) s with
  | (s1, none) => (s1, none)
  | (s1, some l) => (s1, some (l.map fun x => pointOfWord x.2))

/-- Whether times run strictly upward (R60). -/
def strictlyRising : List (Nat × Int) → Bool
  | [] => true
  | [_] => true
  | p :: q :: rest => decide (p.1 < q.1) && strictlyRising (q :: rest)

/-- The flat-gain mark of a slot by the area its record names (R60). -/
def flatByArea (n : Slot) (area : Option Area) (s : State) : State :=
  match area with
  | none => setFlat n .clear s
  | some a =>
    if areaComplete s.gain.pieces[a] then
      match readCurve a s with
      | (s1, none) => setFlat n .incomplete s1
      | (s1, some pts) => setFlat n (if strictlyRising pts then .clear else .order) s1
    else setFlat n .incomplete s

/-- The check of one slot's curve area at CLOSE SETUP (R60). The mark of a slot that a read of this CLOSE SETUP has found
store-damaged, this check's own read included, is left clear (R183; log 38). -/
def flatCheck (s : State) (n : Slot) : State :=
  match readSlot n [1] s with
  | (s1, none) => setFlat n .clear s1
  | (s1, some r) => if s1.sched.storeDamaged[n] then setFlat n .clear s1 else flatByArea n r.area s1

/-- The curve of a shot at its processing and whether its peaks carry the flat-gain flag (R62, R63, R70). `marked` is the
flat-gain mark as read when the record was taken. A read that finds the area damaged sets the mark, which then holds for the
whole shot. Points of an area that is not complete are not used (R59, R165), and none of them is read: a piece that another read
has given up since the taking is no item any more (R172). DESIGN CHOICE (log 44): such a shot, its mark as taken clear, has
curve gain 0 with the flat-gain flag, also where a STATION RESET has cleared the piece-written flags. -/
def shotCurve (marked : Bool) (area : Option Area) (s : State) : State × List (Nat × Int) × Bool :=
  if marked then (s, [], true)
  else
    match area with
    | none => (s, [], false)
    | some a =>
      if areaComplete s.gain.pieces[a] then
        match readCurve a s with
        | (s1, none) => (s1, [], true)
        | (s1, some pts) => (s1, pts, false)
      else (s, [], true)

/-- The gained peaks of a record (R57, R69): one for each raw peak, in the same order. -/
def gainPeaks (rec : ShotRecord) (base : Nat) (pts : List (Nat × Int)) (flatGain : Bool) : List GainedPeak :=
  let d := rec.decision.getD ⟨0, false⟩
  rec.peaks.map (gainPeak base d.boost flatGain d.watch (curveGain pts))

end Sys2Proof.Machine
end

