-- ==== Sys2Proof/Machine/Gates.lean ====
section
/-! DEFINITION. The Gate Evaluator (05): the checks at CLOSE SETUP, gates I, A and B, and the location of hits. -/

namespace Sys2Proof.Machine

/-! The checks at CLOSE SETUP (R73). -/

/-- A gate whose enable field is yes and whose end is not after its start is set off (R73). -/
def gateOff (g : GateFields) : Bool := g.enable && decide (g.stop ≤ g.start)

/-- The four marks of a slot replaced. -/
def setGateMarks (n : Slot) (i a b sync : Bool) (s : State) : State :=
  { s with gates :=
    { offI := put s.gates.offI n i, offA := put s.gates.offA n a, offB := put s.gates.offB n b,
      syncOff := put s.gates.syncOff n sync } }

/-- The check of one slot's gates (R73). The marks of a slot that a read of this CLOSE SETUP has found store-damaged, this
check's own reads included, are left clear (R183; log 38). -/
def gateCheck (s : State) (n : Slot) : State :=
  match readSlot n [0, 4, 5, 6, 7, 8] s with
  | (s1, none) => setGateMarks n false false false false s1
  | (s1, some r) =>
    if s1.sched.storeDamaged[n] then setGateMarks n false false false false s1
    else
      setGateMarks n (gateOff r.gateI) (gateOff r.gateA) (gateOff r.gateB)
        (r.interfaceSync && (!r.gateI.enable || gateOff r.gateI)) s1

/-- The effective coupling source of a slot (06, R92). -/
def effectiveSource (r : SlotRecord) (offI offB : Bool) : CouplingSource :=
  if r.sourceGateB && r.gateB.enable && !offB && r.gateB.mode != .absence then .gateB
  else if r.gateI.enable && !offI then .interface
  else .none

/-- The effective coupling source of a slot replaced. -/
def setSource (n : Slot) (c : CouplingSource) (s : State) : State :=
  { s with coup := { s.coup with slots := put s.coup.slots n { s.coup.slots[n] with source := c } } }

/-- The check of one slot's coupling source, after the gate check (06, R92). The source of a slot that a read of this CLOSE
SETUP has found store-damaged, this check's own reads included, is left INTERFACE (R183; log 38). -/
def sourceCheck (s : State) (n : Slot) : State :=
  match readSlot n [0, 4] s with
  | (s1, none) => setSource n .interface s1
  | (s1, some r) =>
    setSource n (if s1.sched.storeDamaged[n] then .interface else effectiveSource r s1.gates.offI[n] s1.gates.offB[n]) s1

/-! Gates (R74 to R82). -/

/-- The gained peaks with their places from 1. -/
def placed (peaks : List GainedPeak) : List (Nat × GainedPeak) :=
  (List.range peaks.length).zip peaks |>.map fun x => (x.1 + 1, x.2)

/-- The peaks of a window (R75). -/
def inWindow (w : Nat × Nat) (peaks : List (Nat × GainedPeak)) : List (Nat × GainedPeak) :=
  peaks.filter fun x => decide (w.1 ≤ x.2.time) && decide (x.2.time ≤ w.2)

/-- The peaks that reach a threshold (R75). -/
def reaching (threshold : Nat) (peaks : List (Nat × GainedPeak)) : List (Nat × GainedPeak) :=
  peaks.filter fun x => decide (threshold ≤ x.2.amp)

/-- The peak of the highest amplitude, the earliest on ties (R80, R81). -/
def highest : List (Nat × GainedPeak) → Option (Nat × GainedPeak)
  | [] => none
  | x :: rest =>
    match highest rest with
    | none => some x
    | some y => if x.2.amp < y.2.amp then some y else some x

/-- A result that takes a peak. -/
def taking (st : GateStatus) (w : Nat × Nat) (x : Nat × GainedPeak) : GateResult :=
  { status := st, window := some w, time := some x.2.time, amp := some x.2.amp, place := some x.1 }

/-- A result without a peak. -/
def noPeak (st : GateStatus) (w : Option (Nat × Nat)) : GateResult :=
  { status := st, window := w, time := none, amp := none, place := none }

/-- FOUND with the peak, or NOT FOUND. -/
def foundOr (w : Nat × Nat) (x : Option (Nat × GainedPeak)) : GateResult :=
  match x with
  | some p => taking .found w p
  | none => noPeak .notFound (some w)

/-- A gate's result on its effective window, by its mode (R76, R79, R80, R81). -/
def gateOn (mode : GateMode) (threshold : Nat) (w : Nat × Nat) (peaks : List (Nat × GainedPeak)) : GateResult :=
  let inside := inWindow w peaks
  match mode with
  | .first => foundOr w (reaching threshold inside).head?
  | .peak => foundOr w (highest (reaching threshold inside))
  | .absence =>
    match highest inside with
    | none => { status := .loss, window := some w, time := none, amp := some 0, place := none }
    | some x => taking (if threshold ≤ x.2.amp then .present else .loss) w x

/-- The effective window of gate A or B (R75, R77). -/
def effectiveWindow (g : GateFields) (shift : Nat) : Nat × Nat := (min 16383 (g.start + shift), min 16383 (g.stop + shift))

/-- The window of a gate's fields. -/
def fieldWindow (g : GateFields) : Nat × Nat := (g.start, g.stop)

/-- Gate A or B of a shot: DISABLED, NOT EVALUATED on a no-interface shot, or evaluated (R74, R77, R78). The window of a
NOT EVALUATED result is absent, as no interface time gives one (DEDUCED, log 29). -/
def hitGate (g : GateFields) (off noInterface : Bool) (shift : Option Nat) (peaks : List (Nat × GainedPeak)) : GateResult :=
  if !g.enable || off then noPeak .disabled none
  else if noInterface then noPeak .notEvaluated none
  else
    let w := match shift with
      | some t => effectiveWindow g t
      | none => fieldWindow g
    gateOn g.mode g.threshold w peaks

/-- The three gate results of a shot (R71, R74, R76 to R78). -/
def evaluateGates (r : SlotRecord) (offI offA offB syncOff : Bool) (peaks : List GainedPeak) : GateResults :=
  let ps := placed peaks
  let i := if !r.gateI.enable || offI then noPeak .disabled none
    else gateOn .first r.gateI.threshold (fieldWindow r.gateI) ps
  let sync := r.interfaceSync && !syncOff
  let noInterface := sync && i.status == .notFound
  let shift := if sync then i.time else none
  { i := i, a := hitGate r.gateA offA noInterface shift ps, b := hitGate r.gateB offB noInterface shift ps,
    noInterface := noInterface }

/-! Location (R85 to R89). -/

/-- Δ, clamped to 0 (R85). -/
def delta (time wedge : Nat) : Nat := time - wedge

/-- The one-way sound path in µm (R86). -/
def soundPath (delta velocity : Nat) : Nat := delta * velocity / 200

/-- The depth in 0.1 mm (R87). -/
def depthOf (s fd : Nat) : Nat := (s * fd / 4096 + 50) / 100

/-- The along-rail offset in tu (R87). -/
def offsetOf (s fo : Nat) : Nat := (s * fo / 4096 + 62) / 125

/-- The flags a hit takes from the peak its result took and from its shot (R84). -/
def flagsOf (peaks : List GainedPeak) (place : Option Nat) (flatGain watch wedgeClamp posLimit : Bool) : HitFlags :=
  let p := place.bind fun k => peaks[k - 1]?
  { saturated := (p.map (·.saturated)).getD false, gainClamped := (p.map (·.gainClamped)).getD false,
    flatGain := flatGain, wedgeClamp := wedgeClamp, watch := watch, posLimit := posLimit }

/-- What the location of a shot's hits uses: the slot's fields, the working wedge delay and the probe index point before
any clamp, Pr + Pm at the fire (R85 to R89). -/
structure Located where
  slot : Slot
  record : SlotRecord
  wedge : Nat
  indexPoint : Int
  flatGain : Bool
  watch : Bool
deriving DecidableEq, Repr

/-- A REFLECTOR hit (R83 to R88). -/
def reflectorHit (l : Located) (g : Gate) (peaks : List GainedPeak) (time amp : Nat) (place : Option Nat) : Hit :=
  let path := soundPath (delta time l.wedge) l.record.velocity
  let exact := l.indexPoint + l.record.look.sign * (offsetOf path l.record.offsetFactor : Int)
  { slot := l.slot, gate := g, kind := .reflector, time := some time, amp := amp, pos := clampPos exact,
    depth := some (depthOf path l.record.depthFactor),
    flags := flagsOf peaks place l.flatGain l.watch (decide (time < l.wedge)) (!inPosRange exact) }

/-- A BACKWALL LOSS hit (R83, R84, R89). -/
def lossHit (l : Located) (g : Gate) (peaks : List GainedPeak) (amp : Nat) (place : Option Nat) : Hit :=
  { slot := l.slot, gate := g, kind := .backwallLoss, time := none, amp := amp, pos := clampPos l.indexPoint, depth := none,
    flags := flagsOf peaks place l.flatGain l.watch false (!inPosRange l.indexPoint) }

/-- The hit a gate result forms (R83). -/
def hitOf (l : Located) (g : Gate) (peaks : List GainedPeak) (r : GateResult) : List Hit :=
  match r.status with
  | .found => [reflectorHit l g peaks (r.time.getD 0) (r.amp.getD 0) r.place]
  | .loss => [lossHit l g peaks (r.amp.getD 0) r.place]
  | _ => []

/-- The hits of a shot, gate A's first (R83). -/
def hitsOf (l : Located) (peaks : List GainedPeak) (r : GateResults) : List Hit :=
  hitOf l .a peaks r.a ++ hitOf l .b peaks r.b

end Sys2Proof.Machine
end

