-- ==== Sys2Proof/Machine/Reports.lean ====
section
/-! DEFINITION. The Report Queue (09): the join, the ranking and the displacement. -/

namespace Sys2Proof.Machine

/-- The report records replaced. -/
def setRecords (l : List (Placed IndicationRecord)) (s : State) : State := { s with rep := { s.rep with records := l } }

/-- The waiting records: every record but the locked one, which is the head (R152). -/
def waitingRecords (s : State) : List (Placed IndicationRecord) :=
  if s.rep.locked.isSome then s.rep.records.tail else s.rep.records

/-- Reads the words of the waiting records, oldest first; a damaged one leaves and is counted lost (R155). DESIGN CHOICE
(log 40): the displacement search too reads every waiting record, also those behind a damaged one. -/
def readWaiting (s : State) : State :=
  ((waitingRecords s).map (·.place)).foldl (fun s p => readItem (reportBase p) 11 s) s

/-- Whether the first record ranks lower than the second: by class, then by peak amplitude (R152). -/
def ranksBelow (x y : IndicationRecord) : Bool :=
  decide (x.cls < y.cls) || (decide (x.cls = y.cls) && decide (x.peakAmp < y.peakAmp))

/-- The lowest-ranked record, the one that joined most recently among equals (R152). -/
def lowestRanked : List (Placed IndicationRecord) → Option (Placed IndicationRecord)
  | [] => none
  | x :: rest =>
    match lowestRanked rest with
    | none => some x
    | some y => if ranksBelow x.item y.item then some x else some y

/-- A record at the end of the join order in a free place, its words written (R151). -/
def appendRecord (r : IndicationRecord) (s : State) : State :=
  let p := freePlace s.rep.records
  writeItem (reportBase p) 11 (setRecords (s.rep.records ++ [⟨p, r⟩]) s)

/-- A record that arrives at a full queue (R152, R155). -/
def displaceFor (r : IndicationRecord) (s : State) : State :=
  let s1 := readWaiting s
  if s1.rep.records.length < 16 then appendRecord r s1
  else
    let s2 := s1.count addReportsLost
    match lowestRanked (waitingRecords s2) with
    | none => s2
    | some y => if ranksBelow y.item r then appendRecord r (setRecords (without s2.rep.records y.place) s2) else s2

/-- The join of a record to the report queue (R151, R152). -/
def reportJoin (r : IndicationRecord) (s : State) : State :=
  if s.rep.records.length < 16 then appendRecord r s else displaceFor r s

end Sys2Proof.Machine
end

