-- ==== Sys2Proof/Machine/Tracker.lean ====
section
/-! DEFINITION. The Indication Tracker (07): evaluation and the outputs of a closure, association, opening, eviction, misses, and sweeps. -/

namespace Sys2Proof.Machine

/-- Every index of the indication table, ascending. -/
def allIndices : List (Fin 32) := List.finRange 32

/-- Whether a shot's processing has met damage in the station record, at which it ends (R168). -/
def State.stopped (s : State) : Bool := s.store.clearAtRelease

/-- Whether a closure cause is a sweep's. A sweep goes on after damage in the station record (R168; log 35). -/
def ClosureCause.isSweep : ClosureCause → Bool
  | .misses => false
  | .span => false
  | .evicted => false
  | .coupling => false
  | .reversal => true
  | .halt => true
  | .runEnd => true

/-- Whether the work of a closure ends at the damage met so far. -/
def State.ended (s : State) (cause : ClosureCause) : Bool := s.stopped && !cause.isSweep

/-- Whether a closure makes a mark, a WATCH and a confirmation join where its outcome calls for them: every closure but one with
cause END (R123, R129 to R131), in whatever run state it arises (R136). DEDUCED (log 17): so also in READY and SETUP, although R149
and R159 take the lists and the marker queue to be empty there. -/
def joinsOpen (cause : ClosureCause) : Bool := cause != .runEnd

/-- The fields of an open index replaced, its words written (R166). -/
def writeEntry (i : Fin 32) (e : Entry) (s : State) : State :=
  writeItem (entryBase i) 8 { s with trk := { s.trk with entries := put s.trk.entries i (some e) } }

/-- Reads the words of the listed indices that are OPEN; a damaged entry is freed with cause STORE (R124). -/
def readEntries (is : List (Fin 32)) (s : State) : State :=
  is.foldl (fun s i => if s.trk.entries[i].isSome then readItem (entryBase i) 8 s else s) s

/-! Evaluation (R125 to R128). -/

/-- What an evaluation makes of an entry (R126). -/
inductive Outcome where
  | reportable
  | weak
  | discarded
deriving DecidableEq, Repr

/-- Whether a list entry confirms a closing entry (R125). -/
def confirms (station : Nat) (tc : Nat) (e : Entry) (c : ConfEntry) : Bool :=
  !(c.station == station && c.slot == e.slot.val) && decide ((e.peakPos - c.pos).natAbs ≤ tc)

/-- The confirming entry nearest the peak, the oldest on ties (R125). -/
def nearestConfirming (station tc : Nat) (e : Entry) : List (Placed ConfEntry) → Option ConfEntry
  | [] => none
  | x :: rest =>
    let best := nearestConfirming station tc e rest
    if confirms station tc e x.item then
      match best with
      | none => some x.item
      | some y => if (e.peakPos - y.pos).natAbs < (e.peakPos - x.item.pos).natAbs then some y else some x.item
    else best

/-- The confirming source: station and indication number (R125). -/
def confirmingSource (station tc : Nat) (e : Entry) (l : List (Placed ConfEntry)) : Option (Nat × Nat) :=
  (nearestConfirming station tc e l).map fun c => (c.station, c.number)

/-- Whether an entry meets a hit count and a peak amplitude. -/
def meets (e : Entry) (n a : Nat) : Bool := decide (n ≤ e.hits) && decide (a ≤ e.peakAmp)

/-- The outcome (R126). -/
def outcomeOf (e : Entry) (r : SlotRecord) (confirmed : Bool) : Outcome :=
  if (if confirmed then meets e r.nwatch r.awatch else meets e r.nrep r.arep) then .reportable
  else if meets e r.nwatch r.awatch then .weak
  else .discarded

/-- The class of a reportable entry (R127). -/
def classOf (e : Entry) (asev : Nat) (confirmed : Bool) : Nat :=
  if asev ≤ e.peakAmp then 3 else if confirmed then 2 else 1

/-- The indication record of a reportable entry (R128). -/
def indicationOf (station : Nat) (railRight : Bool) (e : Entry) (cls : Nat) (cause : ClosureCause)
    (source : Option (Nat × Nat)) : IndicationRecord :=
  { station := station, number := e.number, railRight := railRight, slot := e.slot, gate := e.gate, kind := e.kind,
    lo := e.lo, hi := e.hi, peakPos := e.peakPos, peakAmp := e.peakAmp, depths := e.depths, hits := e.hits, cls := cls,
    cause := cause, flags := e.flags, source := source }

/-! Outputs (R129 to R132). -/

/-- A WATCH queued to the outgoing watch FIFO (R180). -/
def fifoJoin (w : WatchOut) (s : State) : State :=
  if s.link.fifo.length < 4 then
    let p := freePlace s.link.fifo
    writeItem (fifoBase p) 4 { s with link := { s.link with fifo := s.link.fifo ++ [⟨p, w⟩] } }
  else s.count addWatchesDropped

/-- The report, and the mark but for cause END (R129). -/
def reportOutputs (e : Entry) (asev : Nat) (cause : ClosureCause) (source : Option (Nat × Nat)) (s : State) : State :=
  match readStationFor cause.isSweep [0] s with
  | (s1, none) => s1
  | (s1, some st) =>
    let cls := classOf e asev source.isSome
    let s2 := reportJoin (indicationOf s1.strap.val st.railRight e cls cause source) s1
    if joinsOpen cause ∧ st.markClass ≠ 0 ∧ st.markClass ≤ cls then markOffer e.peakPos s2 else s2

/-- The WATCH of a closure (R130). -/
def watchOutput (on : Bool) (e : Entry) (s : State) : State :=
  match readStationFor on [0, 4, 5] s with
  | (s1, none) => s1
  | (s1, some st) =>
    fifoJoin { railRight := st.railRight, centre := e.peakPos, half := st.watchHalf, origin := e.number, slot := e.slot.val } s1

/-- The entry a closure joins to the station's own confirmation list (R131, R135). -/
def ownConf (station : Nat) (e : Entry) (m : ConfMark) : ConfEntry :=
  { station := station, slot := e.slot.val, number := e.number, pos := e.peakPos, mark := m }

/-- The outputs that an outcome calls for (R129 to R131; log 17), and then the index freed (R120). -/
def closureOutputs (i : Fin 32) (e : Entry) (r : SlotRecord) (cause : ClosureCause) (source : Option (Nat × Nat))
    (s : State) : State :=
  let o := outcomeOf e r source.isSome
  let s1 := if o = .reportable then reportOutputs e r.asev cause source s else s
  let s2 := if joinsOpen cause ∧ (o = .weak ∨ (o = .reportable ∧ classOf e r.asev source.isSome = 1)) ∧ !s1.ended cause then
    watchOutput cause.isSweep e s1 else s1
  let s3 := if joinsOpen cause ∧ o ≠ .discarded ∧ !s2.ended cause then
    confJoin cause.isSweep (ownConf s2.strap.val e (if o = .reportable then .reported else .weak)) s2 else s2
  if s3.ended cause then s3 else freeEntry i s3

/-- The closure of an open entry whose words have been read (R120, R125 to R133): the search of the confirmation list, the
read of the slot's thresholds, and the outputs. Damage in the thresholds discards the entry (R133). DESIGN CHOICE (log 45): the
word of the confirmation tolerance is read at every closure, also when the confirmation list is empty. -/
def closeEntry (cause : ClosureCause) (i : Fin 32) (s : State) : State :=
  match s.trk.entries[i] with
  | none => s
  | some e =>
    match readStationFor cause.isSweep [4] s with
    | (s1, none) => s1
    | (s1, some st) =>
      let s2 := readConf s1
      let source := confirmingSource s2.strap.val st.confirmTol e s2.conf.list
      match readSlot e.slot [10, 11] s2 with
      | (s3, none) => freeEntry i s3
      | (s3, some r) => closureOutputs i e r cause source s3

/-- The closure of each listed index that is OPEN, in the order given, its words read first (R121 to R124). -/
def closeRead (cause : ClosureCause) (is : List (Fin 32)) (s : State) : State :=
  is.foldl (fun s i => if s.ended cause then s else closeEntry cause i (readEntries [i] s)) s

/-- A sweep (R122, R123). -/
def sweep (cause : ClosureCause) (s : State) : State := closeRead cause allIndices s

/-- The open indices that a test of their entry accepts, ascending. -/
def openWhere (s : State) (f : Entry → Bool) : List (Fin 32) :=
  allIndices.filter fun i => match s.trk.entries[i] with | some e => f e | none => false

/-- The COUPLING closures of a slot (R121). -/
def couplingClosures (n : Slot) (s : State) : State := closeRead .coupling (openWhere s fun e => e.slot == n) s

/-! Opening (R114, R115). -/

/-- The lowest FREE index. -/
def lowestFree (s : State) : Option (Fin 32) := allIndices.find? fun i => s.trk.entries[i].isNone

/-- The number after a number (R115). -/
def nextNumber (n : Nat) : Nat := if 65535 ≤ n then 1 else n + 1

/-- The first number from `n` on that none of the listed carries; one is found within 49 values (R115). -/
def freeNumber (used : List Nat) : Nat → Nat → Nat
  | 0, n => n
  | fuel + 1, n => if used.contains n then freeNumber used fuel (nextNumber n) else n

/-- The numbers that open entries and report records carry; the locked record's comes from the locked number (R115, R155). -/
def usedNumbers (s : State) : List Nat :=
  allIndices.filterMap (fun i => s.trk.entries[i].map (·.number)) ++ (waitingRecords s).map (·.item.number)
    ++ s.rep.locked.toList

/-- The entry a hit opens (R114). -/
def openedBy (number : Nat) (h : Hit) : Entry :=
  { number := number, slot := h.slot, gate := h.gate, kind := h.kind, lo := h.pos, hi := h.pos, peakAmp := h.amp,
    peakPos := h.pos, depths := h.depth.map fun d => (d, d), hits := 1, missRun := 0, last := h.pos, flags := h.flags }

/-- A hit opens at a FREE index (R114, R115). -/
def openAt (i : Fin 32) (h : Hit) (s : State) : State :=
  let s1 := readWaiting s
  let n := freeNumber (usedNumbers s1) 49 s1.trk.next
  writeEntry i (openedBy n h)
    { s1 with trk := { s1.trk with order := s1.trk.order ++ [i], next := nextNumber n } }

/-- The eviction candidate: the lowest peak amplitude, the latest in the opening order on ties (R116). -/
def candidate (s : State) : Option (Fin 32 × Nat) :=
  s.trk.order.foldl (fun best i =>
    match s.trk.entries[i], best with
    | none, _ => best
    | some e, none => some (i, e.peakAmp)
    | some e, some b => if e.peakAmp ≤ b.2 then some (i, e.peakAmp) else best) none

/-- An unmatched hit at a full table whose entries have been read (R116, R117). The index it opens, if any, is given back:
none when damage in the station record has ended the shot's processing (R168). -/
def evictFor (h : Hit) (s : State) : State × Option (Fin 32) :=
  match candidate s with
  | none => (s, none)
  | some c =>
    if c.2 < h.amp then
      let s1 := closeEntry .evicted c.1 s
      if s1.trk.entries[c.1].isSome then (s1, none) else (openAt c.1 h s1, some c.1)
    else (s.count addTrackerSaturation, none)

/-- An unmatched hit (R114, R116, R117, R124). DESIGN CHOICE (log 40): the search for an eviction candidate reads every open
entry, also those behind a damaged one. -/
def openHit (h : Hit) (s : State) : State × Option (Fin 32) :=
  match lowestFree s with
  | some i => (openAt i h s, some i)
  | none =>
    let s1 := readEntries allIndices s
    match lowestFree s1 with
    | some i => (openAt i h s1, some i)
    | none => evictFor h s1

/-! Association (R110 to R113). -/

/-- Whether a hit matches an open entry of its slot and gate (R110). -/
def matchesEntry (window tol : Nat) (h : Hit) (e : Entry) : Bool :=
  e.slot == h.slot && e.gate == h.gate && decide ((h.pos - e.last).natAbs ≤ window) &&
    match h.depth, e.depths with
    | some d, some (lo, hi) => decide (lo ≤ d + tol) && decide (d ≤ hi + tol)
    | _, _ => true

/-- The matching entry nearest the hit, the lowest index on ties (R111), among the listed indices, ascending. -/
def nearestEntry (window tol : Nat) (h : Hit) (s : State) : List (Fin 32) → Option (Fin 32 × Entry)
  | [] => none
  | i :: rest =>
    let best := nearestEntry window tol h s rest
    match s.trk.entries[i] with
    | none => best
    | some e =>
      if matchesEntry window tol h e then
        match best with
        | none => some (i, e)
        | some y => if (h.pos - y.2.last).natAbs < (h.pos - e.last).natAbs then some y else some (i, e)
      else best

/-- The depth range widened by a hit (R113). -/
def widen (depths : Option (Nat × Nat)) (d : Option Nat) : Option (Nat × Nat) :=
  match depths, d with
  | some (lo, hi), some x => some (min lo x, max hi x)
  | old, _ => old

/-- A hit taken into an entry (R113). -/
def takeInto (h : Hit) (e : Entry) : Entry :=
  { e with
    lo := min e.lo h.pos
    hi := max e.hi h.pos
    peakAmp := if e.peakAmp < h.amp then h.amp else e.peakAmp
    peakPos := if e.peakAmp < h.amp then h.pos else e.peakPos
    depths := widen e.depths h.depth
    hits := min 65535 (e.hits + 1)
    missRun := 0
    last := h.pos
    flags := e.flags.or h.flags }

/-- The span an entry would have with a hit (R112). -/
def spanWith (e : Entry) (h : Hit) : Int := max e.hi h.pos - min e.lo h.pos

/-- One hit offered (R110 to R117). The index that has received it, if any, is given back. -/
def offerHit (st : StationRecord) (h : Hit) (s : State) : State × Option (Fin 32) :=
  let s1 := readEntries (openWhere s fun e => e.slot == h.slot && e.gate == h.gate) s
  match nearestEntry st.window st.depthTol h s1 allIndices with
  | none => openHit h s1
  | some (i, e) =>
    if (st.maxSpan : Int) < spanWith e h then
      let s2 := closeEntry .span i s1
      if s2.stopped then (s2, none) else openHit h s2
    else (writeEntry i (takeInto h e) s1, some i)

/-- The hits of a shot offered in order, with the indices that have received one (R109). -/
def offerHits (st : StationRecord) : List Hit → List (Fin 32) → State → State × List (Fin 32)
  | [], fed, s => (s, fed)
  | h :: rest, fed, s =>
    if s.stopped then (s, fed)
    else
      let r := offerHit st h s
      offerHits st rest (r.2.toList ++ fed) r.1

/-! Misses (R118, R119). -/

/-- The miss of one index: its words are read, a damaged entry is freed, and the miss run rises (R118, R124). -/
def missAt (i : Fin 32) (s : State) : State :=
  let s1 := readEntries [i] s
  match s1.trk.entries[i] with
  | none => s1
  | some e => writeEntry i { e with missRun := e.missRun + 1 } s1

/-- The misses of a tracked shot and the MISSES closures, ascending (R118, R119). -/
def misses (n : Slot) (closeGap : Nat) (fed : List (Fin 32)) (s : State) : State :=
  let is := (openWhere s fun e => e.slot == n).filter fun i => !fed.contains i
  let s1 := is.foldl (fun s i => missAt i s) s
  is.foldl (fun s i =>
    match s.trk.entries[i] with
    | some e => if closeGap ≤ e.missRun ∧ !s.stopped then closeEntry .misses i s else s
    | none => s) s1

/-- The tracker's work for a tracked shot (R109). DESIGN CHOICE (log 45): the association window, the depth tolerance and the
maximum span (R107) are read at every tracked shot, also at one that brings no hit. -/
def track (n : Slot) (closeGap : Nat) (hits : List Hit) (s : State) : State :=
  match readStation [3, 4] s with
  | (s1, none) => s1
  | (s1, some st) =>
    let r := offerHits st hits [] s1
    if r.1.stopped then r.1 else misses n closeGap r.2 r.1

end Sys2Proof.Machine
end

