-- ==== Sys2Proof/Machine/ExecProcessing.lean ====
section
/-! DEFINITION. Meanings: the processing of a completed shot, the expiry test and the tracker's sweeps. -/

namespace Sys2Proof.Machine

/-! The processing of a shot (R172), stage by stage. -/

/-- The verdict of a tested shot (R98): the test result, the slot's coupling state after the shot, and the observed mark. -/
structure Verdict where
  pass : Bool
  state : CouplingState
  observed : Bool
deriving DecidableEq, Repr

/-- A verdict: a shot is observed when it passed and its slot is COUPLED after it (R98). -/
def verdictOf (pass : Bool) (state : CouplingState) : Verdict :=
  { pass := pass, state := state, observed := pass && state == .coupled }

/-- The hand-over's working values: the record, the results, the hits and the verdict (R90, R98). -/
structure HandOver where
  record : ShotRecord
  results : GateResults
  hits : List Hit
  verdict : Verdict
deriving DecidableEq, Repr

/-- The feed test's conditions but for those of the slot record (R108). -/
def feedStation (h : HandOver) (st : StationRecord) (s : State) : Bool :=
  s.link.run == .run && st.trigger == .position && !h.record.settle && h.verdict.observed

/-- The feed test and the tracker's work (R108, R109, R133). A station record that another read has given up since the shot's
record was taken is no item any more, and its words are not read (R165, R172): the station has returned to SETUP (R168), and the
shot is not tracked (log 50). -/
def feed (h : HandOver) (s : State) : State :=
  if s.link.present then
    match readStation [0] s with
    | (s1, none) => s1
    | (s1, some st) =>
      match readSlot h.record.slot [0, 9] s1 with
      | (s2, none) => s2
      | (s2, some r) =>
        if feedStation h st s2 && r.feed then track h.record.slot r.closeGap h.hits s2 else s2
  else s

/-- Auto-zero at the hand-over of a settle shot (R33). -/
def autoZero (h : HandOver) (s : State) : State :=
  if h.record.settle && h.record.autoZero then
    s.setSched fun u =>
      match h.results.i.time with
      | some t =>
        { u with wedge := put u.wedge h.record.slot (min 4095 t)
                 zeroFailed := if 4095 < t then put u.zeroFailed h.record.slot true else u.zeroFailed }
      | none => { u with zeroFailed := put u.zeroFailed h.record.slot true }
  else s

/-- The answer to a held shot request (R37, R181). -/
def answerRequest (h : HandOver) (s : State) : State :=
  if s.sched.request = some h.record.slot then
    (s.setSched fun u => { u with request := none }).setLink fun l =>
      { l with shotBuf := some { record := h.record, results := h.results } }
  else s

/-- The hand-over (R90). -/
def handShot (h : HandOver) (s : State) : State := feed h (answerRequest h (autoZero h s))

/-- What the coupling test does to its slot (R95 to R97, R104). -/
def couplingAct (act : CouplingAct) (n : Slot) (firePos : Int) (s : State) : State :=
  match act with
  | .nothing => s
  | .extend => touchGap n .coupling firePos firePos s
  | .enterLost =>
    let s1 := couplingClosures n s
    if s1.stopped then s1 else openCouplingGap n firePos s1

/-- The coupling test of a shot, its effect, and its verdict (R93 to R98, R105). A settle shot changes nothing (R94). -/
def coupleShot (rec : ShotRecord) (r : SlotRecord) (g : GateResults) (s : State) : State × Verdict :=
  let c := s.coup.slots[rec.slot]
  let pass := couplingPass c.source r.couplingThreshold rec.transmitted g
  if rec.settle then (s, verdictOf pass c.state)
  else
    let q := couplingNext c pass r.lossRun r.recoveryRun rec.firePos
    let v := verdictOf pass q.1.state
    let s1 := couplingAct q.2 rec.slot rec.firePos (setCoupling rec.slot q.1 s)
    (if v.observed then closeGaps rec.slot s1 else s1, v)

/-- The stage of the coupling test, then the hand-over. The processing of a shot whose slot is store-damaged ends (R35, R102, R167)
as R169 gives it: its coupling state, runs and gaps stay, it makes no hit, no miss and no auto-zero, and it answers no request. DESIGN
CHOICE (log 48): where its own reads find no damage, it ends after them, before the coupling test. -/
def testShot (rec : ShotRecord) (g : GateResults) (hits : List Hit) (s : State) : State :=
  match readSlot rec.slot [9] s with
  | (s1, none) => s1
  | (s1, some r) =>
    if s1.sched.storeDamaged[rec.slot] then s1
    else
      let q := coupleShot rec r g s1
      if q.1.stopped then q.1 else handShot { record := rec, results := g, hits := hits, verdict := q.2 } q.1

/-- What locates the hits of a record (R72, R85 to R89). -/
def locatedOf (rec : ShotRecord) (r : SlotRecord) (flatGain : Bool) (s : State) : Located :=
  { slot := rec.slot, record := r, wedge := s.sched.wedge[rec.slot], indexPoint := stationRef s rec.firePos + r.pm,
    flatGain := flatGain, watch := (rec.decision.getD ⟨0, false⟩).watch }

/-- The stage of gating and location (R71). -/
def gateShot (rec : ShotRecord) (peaks : List GainedPeak) (flatGain : Bool) (s : State) : State :=
  match readSlot rec.slot (List.range 10) s with
  | (s1, none) => s1
  | (s1, some r) =>
    let n := rec.slot
    let g := evaluateGates r s1.gates.offI[n] s1.gates.offA[n] s1.gates.offB[n] s1.gates.syncOff[n] peaks
    testShot rec g (hitsOf (locatedOf rec r flatGain s1) peaks g) s1

/-- The stage of gain (R57, R62, R66, R70). -/
def gainShot (rec : ShotRecord) (s : State) : State :=
  match readSlot rec.slot [0, 1] s with
  | (s1, none) => s1
  | (s1, some r) =>
    match shotCurve s1.gain.takenFlat r.area s1 with
    | (s2, pts, flatGain) => gateShot rec (gainPeaks rec r.baseGain pts flatGain) flatGain s2

/-- The Gain Unit takes the head of the record queue, with its flat-gain mark, and requests its held access (R57, R62). -/
def takeNext (s : State) : State :=
  match s.gain.queue with
  | [] => { s with gain := { s.gain with processing := none } }
  | r :: rest =>
    raise .processing { s with gain := { s.gain with
      processing := some r, queue := rest, takenFlat := decide (s.gain.flat[r.slot] ≠ .clear) } }

/-- The request of a shot's processing. -/
def asProcessing : ShotReq → Option Unit
  | .processing => some ()
  | _ => none

/-- SHOT_PROCESSING (R172): the held access of the record in processing, then the taking of the next record. -/
def execShotProcessing (s : State) : Out :=
  .next (match takeShot asProcessing s with
    | none => s
    | some (_, s1) =>
      release (takeNext (match s1.gain.processing with
        | some rec => gainShot rec s1
        | none => s1)))

/-- The request of an expiry test. -/
def asExpiry : ShotReq → Option (Int × Dir)
  | .expiry pc dir => some (pc, dir)
  | _ => none

/-- EXPIRY_TEST (R143, R144): both lists tested with the Pc and Dir of the step or reversal event. -/
def execExpiryTest (s : State) : Out :=
  .next (match takeShot asExpiry s with
    | none => s
    | some (⟨pc, dir⟩, s1) => release (testLists pc dir s1))

/-- The request of a sweep of a given cause. -/
def asSweep (cause : ClosureCause) : ShotReq → Option Unit
  | .sweep c => if c = cause then some () else none
  | _ => none

/-- A granted sweep of a given cause (R122, R123). -/
def runSweep (cause : ClosureCause) (s : State) : State :=
  match takeShot (asSweep cause) s with
  | none => s
  | some (_, s1) => release (sweep cause s1)

/-- REVERSAL_SWEEP (R122). -/
def execReversalSweep (s : State) : Out := .next (runSweep .reversal s)

/-- HALT_SWEEP (R123). -/
def execHaltSweep (s : State) : Out := .next (runSweep .halt s)

/-- END_SWEEP (R123). -/
def execEndSweep (s : State) : Out := .next (runSweep .runEnd s)

end Sys2Proof.Machine
end

