-- ==== Sys2Proof/Machine/ExecRounds.lean ====
section
/-! DEFINITION. Meanings: rounds, turns, the rail line, the boost decision, the completion of shots and the shot request. -/

namespace Sys2Proof.Machine

/-- REPETITION_TIMER_EXPIRY (R20, R21): in RUN with the timer running it restarts with the same period, and a round is
asked for at the Pc of the expiry. -/
def execRepetitionTimerExpiry (s : State) : Out :=
  .next (if s.link.run = .run ∧ s.sched.repTimer.isSome then
      arbitrate (raise (.formation .timer none s.odo.pc true) s)
    else s)

/-- Whether a slot is due by its enable and divisor (R19, R21). -/
def isDue (origin : Origin) (index : Option Nat) (r : SlotRecord) : Bool :=
  r.enable && (origin == .timer || index.getD 0 % r.divisor == 0)

/-- The reads of a formation, slot by slot, and the due slots among those listed. A slot whose read finds damage is due,
so that it is skipped STORE at its turn (R17). -/
def formDue (origin : Origin) (index : Option Nat) : List Slot → State → State × List Slot
  | [], s => (s, [])
  | n :: rest, s =>
    let r := readSlot n [0] s
    let due := match r.2 with | none => true | some x => isDue origin index x
    let q := formDue origin index rest r.1
    (q.1, if due then n :: q.2 else q.2)

/-- The formation of a round at the grant of its access (R17, R19, R21, R22). -/
def formRound (origin : Origin) (index : Option Nat) (pos : Int) (s : State) : State :=
  let q := formDue origin index allSlots s
  newRound { origin := origin, index := index, pos := pos, due := q.2, todo := q.2 } q.1

/-- The request of a formation. -/
def asFormation : ShotReq → Option (Origin × Option Nat × Int × Bool)
  | .formation o i p l => some (o, i, p, l)
  | _ => none

/-- ROUND_FORMATION (R17, R22, R26, R27): a formation granted after the station has left RUN forms no round. DESIGN CHOICE
(log 19): such an access reads no slot record, and one granted before the station left RUN and taken after forms none either. -/
def execRoundFormation (s : State) : Out :=
  .next (match takeShot asFormation s with
    | none => s
    | some (⟨o, i, p, isLive⟩, s1) =>
      release (if isLive && s1.link.run == .run then formRound o i p s1 else s1))

/-- The request of a turn's reads. -/
def asTurn : ShotReq → Option (Slot × Bool)
  | .turn n l => some (n, l)
  | _ => none

/-- The fields a turn's reads give the fire (R17). -/
def turnOf (r : SlotRecord) : Turn := { txPort := r.txPort, rxPort := r.rxPort, quiet := r.quiet, autoZero := r.autoZero }

/-- A slot's turn after its reads (R23): skipped STORE when a read found damage or its mark has been set while the reads
waited (R17, R35, R102), skipped PORT, asking for the rail, or fired as a local slot. -/
def takeTurn (n : Slot) (r : Option SlotRecord) (s : State) : State :=
  match r with
  | none => skipTurn .store s
  | some r =>
    if s.sched.storeDamaged[n] then skipTurn .store s
    else if s.coup.portFault[r.txPort] then skipTurn .port s
    else
      let s1 := s.setSched fun u => { u with turn := some (turnOf r) }
      if r.claimsRail then claimTurn n s1 else fire false s1

/-- TURN_READS (R17, R23, R26, R30): the reads of a turn that has been withdrawn fire nothing. -/
def execTurnReads (s : State) : Out :=
  .next (match takeShot asTurn s with
    | none => s
    | some (⟨n, isLive⟩, s1) =>
      let r := readSlot n [0, 1] s1
      release (if isLive then takeTurn n r.2 r.1 else r.1))

/-- The request of an in-zone question. -/
def asZone : ShotReq → Option (Slot × Int)
  | .zone n p => some (n, p)
  | _ => none

/-- The boost decision of a shot at a fire position (R65, R145): watch response, aim point, zones, watch boost. Damage in the
word of the aim offset answers no (R145). DESIGN CHOICE (log 41): damage in the word of watch response gives no boost and watch
no; damage in the word of watch boost leaves watch yes with a free boost. DESIGN CHOICE (log 49): the words of every zone of the
watch list are read before the question is answered, so damage behind a zone that answers yes is found and acted on too. -/
def decide65 (n : Slot) (firePos : Int) (s : State) : State × Boost :=
  match readSlot n [0] s with
  | (s1, none) => (s1, ⟨0, false⟩)
  | (s1, some r0) =>
    if !r0.watchResponse then (s1, ⟨0, false⟩)
    else
      match readSlot n [4] s1 with
      | (s2, none) => (s2, ⟨0, false⟩)
      | (s2, some r4) =>
        let s3 := readZones s2
        if inZone (stationRef s3 firePos + r4.pa) s3.conf.zones then
          let q := readStationOn [5] s3
          (q.1, ⟨q.2.watchBoost, true⟩)
        else (s3, ⟨0, false⟩)

/-- Whether a record is the undecided shot of a question. -/
def asks (n : Slot) (p : Int) (r : ShotRecord) : Bool := r.slot == n && r.firePos == p && r.decision.isNone

/-- The decision set on the first undecided record of a list that it is for. -/
def decideFirst (n : Slot) (p : Int) (b : Boost) : List ShotRecord → List ShotRecord
  | [] => []
  | r :: rest => if asks n p r then { r with decision := some b } :: rest else r :: decideFirst n p b rest

/-- The decision held with its shot (R65): in processing, waiting in the record queue, or still in flight. -/
def setDecision (n : Slot) (p : Int) (b : Boost) (s : State) : State :=
  if s.gain.processing.any (asks n p) then
    { s with gain := { s.gain with processing := s.gain.processing.map fun r => { r with decision := some b } } }
  else if s.gain.queue.any (asks n p) then
    { s with gain := { s.gain with queue := decideFirst n p b s.gain.queue } }
  else
    s.setSched fun u => { u with shot := u.shot.map fun x =>
      if x.slot = n ∧ x.firePos = p ∧ x.decision.isNone then { x with decision := some b } else x }

/-- IN_ZONE_QUESTION (R145, R146, R65). -/
def execInZoneQuestion (s : State) : Out :=
  .next (match takeShot asZone s with
    | none => s
    | some (⟨n, p⟩, s1) =>
      let q := decide65 n p s1
      release (setDecision n p q.2 q.1))

/-- RAIL_LINE_ASSERTION (R39, R43, R46, R47): another station pulls the line. While the own drive is asserted no line event
is taken; the level stands at the pin (log 30). -/
def execRailLineAssertion (s : State) : Out :=
  .next (if s.rail.others then s
    else
      let u := { s.rail with others := true }
      { s with rail := if u.drive then u else takeAssertion u })

/-- RAIL_LINE_RELEASE (R39, R41, R47, R49): the other stations release the line. -/
def execRailLineRelease (s : State) : Out :=
  .next (if s.rail.others then
      let u := { s.rail with others := false }
      { s with rail := if u.drive then u else takeRelease s.strap.val u }
    else s)

/-- ARBITRATION_DELAY_EXPIRY (R44): with the line seen free the claim is won and its slot fires. -/
def execArbitrationDelayExpiry (s : State) : Out :=
  .next (if s.rail.claim = .delay ∧ !lineSeen s.rail then
      finish (fire false { s with rail := grantRail s.rail })
    else s)

/-- STUCK_TIMER_EXPIRY (R47, R48): STUCK is set and the timer stops; a claim in WAITING is granted and fires unclaimed. -/
def execStuckTimerExpiry (s : State) : Out :=
  .next (if s.rail.stuckTimer.isSome then
      let u := { s.rail with stuck := true, stuckTimer := none }
      if u.claim = .waiting then finish (fire true { s with rail := grantRail u }) else { s with rail := u }
    else s)

/-- SHOT_COMPLETION (R25, R32, R53 to R57, R100). -/
def execShotCompletion (transmitted : Bool) (samples : List (Nat × Nat)) (s : State) : Out :=
  .next (match s.sched.shot with
    | some sh => arbitrate (completeShot sh transmitted samples s)
    | none => s)

/-- SHOT_REQUEST (R36): the slot named becomes the shot request; a slot above 11 is ignored. -/
def execShotRequest (f : Frame) (s : State) : Out :=
  .next (receive 9 f (fun s =>
    if byteAt f.payload 0 ≤ 11 then s.setSched fun u => { u with request := some (Fin.ofNat 12 (byteAt f.payload 0)) }
    else s) s)

end Sys2Proof.Machine
end

