-- ==== Sys2Proof/Machine/ExecSetup.lean ====
section
/-! DEFINITION. Meanings: setup frames, their store access, and the checks of CLOSE SETUP. -/

namespace Sys2Proof.Machine

/-- SETUP_STATION (R182): taken as one access of the link receiver. -/
def execSetupStation (f : Frame) (s : State) : Out := .next (receive 1 f (fun s => arbitrate (raiseRx (.station f.payload) s)) s)

/-- SETUP_SLOT (R182): refused when it names a slot above 11. -/
def execSetupSlot (f : Frame) (s : State) : Out :=
  .next (receive 2 f (fun s =>
    if 11 < bits (byteAt f.payload 0) 0 4 then s.count addSetupRefused
    else arbitrate (raiseRx (.slot f.payload) s)) s)

/-- SETUP_CURVE (R58, R182): refused when it names an area above 7 or a piece above 3. -/
def execSetupCurve (f : Frame) (s : State) : Out :=
  .next (receive 3 f (fun s =>
    if 7 < byteAt f.payload 0 ∨ 3 < byteAt f.payload 1 then s.count addSetupRefused
    else arbitrate (raiseRx (.curve f.payload) s)) s)

/-- A stored setup frame taken in READY returns the run state to SETUP (R182, R184). -/
def afterStore (s : State) : State := if s.link.run = .ready then setRun .setup s else s

/-- The words of a station record as stored (R182). -/
def stationWords (r : StationRecord) : List Word := wordsOf (stationToBytes r) ++ List.replicate 8 0

/-- The words of a slot record as stored (R182). -/
def slotWords (r : SlotRecord) : List Word := wordsOf (slotToBytes r) ++ List.replicate 12 0

/-- A SETUP STATION frame stored (R4, R157, R174, R182). -/
def storeStation (p : List Byte) (s : State) : State :=
  let r := stationClamp (stationOfBytes p)
  let s1 := writeWords 0 (stationWords r) s
  afterStore { s1 with
    odo := odoLoad r s1.odo
    mark := markLoad r s1.mark
    link := { s1.link with present := true } }

/-- A SETUP SLOT frame stored (R35, R174, R182). -/
def storeSlot (p : List Byte) (s : State) : State :=
  let r := slotClamp (slotOfBytes p)
  let n : Slot := Fin.ofNat 12 r.slot
  let s1 := writeWords (slotBase n) (slotWords r) s
  afterStore { s1 with sched := { s1.sched with storeDamaged := put s1.sched.storeDamaged n false } }

/-- A SETUP CURVE frame stored (R58, R174, R182). -/
def storeCurve (p : List Byte) (s : State) : State :=
  let a : Area := Fin.ofNat 8 (byteAt p 0)
  let b : Piece := Fin.ofNat 4 (byteAt p 1)
  let s1 := writeWords (pointAddr a (4 * b.val)) (curveWords p) s
  afterStore { s1 with gain := { s1.gain with pieces := put s1.gain.pieces a (put s1.gain.pieces[a] b true) } }

/-- The setup frames that wait. -/
def asSetup : RxReq → Option RxReq
  | .station p => some (.station p)
  | .slot p => some (.slot p)
  | .curve p => some (.curve p)
  | _ => none

/-- What the store access of a setup frame does: by the run state at its grant it is written, in SETUP and READY, or
write-aborted, in RUN and HOLD (R174). -/
def storeFrame (r : RxReq) (s : State) : State :=
  if s.store.grantRun = .run ∨ s.store.grantRun = .hold then s.count addSetupRefused
  else
    match r with
    | .station p => storeStation p s
    | .slot p => storeSlot p s
    | .curve p => storeCurve p s
    | _ => s

/-- The granted store access of a setup frame, when one is in progress (R174). -/
def runSetupStore (s : State) : State :=
  match takeRx asSetup s with
  | none => s
  | some (r, s1) => release (storeFrame r s1)

/-- SETUP_FRAME_STORE (R174, R182). -/
def execSetupFrameStore (s : State) : Out := .next (runSetupStore s)

/-- CLOSE_SETUP (R183): taken in SETUP it asks for the checks; in any other run state it is ignored. DESIGN CHOICE (log 47):
the run state is tested at the reception, also while setup frames received before it still wait for their access. -/
def execCloseSetup (f : Frame) (s : State) : Out :=
  .next (receive 4 f (fun s => if s.link.run = .setup then arbitrate (raiseRx .checks s) else s) s)

/-- Words 10 and 11 of a slot record: Nrep, Nwatch, Arep, Awatch and Asev (R189). -/
def thresholdWords (r : SlotRecord) : List Word :=
  wordsOf ([byteOf r.nrep, byteOf r.nwatch] ++ u16Bytes r.arep ++ u16Bytes r.awatch ++ u16Bytes r.asev)

/-- Nwatch and Awatch of a slot rewritten as at most Nrep and Arep (R183). Damage leaves the words as they are. -/
def clampWatch (s : State) (n : Slot) : State :=
  match readSlot n [10, 11] s with
  | (s1, none) => s1
  | (s1, some r) =>
    writeWords (slotBase n + 10) (thresholdWords { r with nwatch := min r.nwatch r.nrep, awatch := min r.awatch r.arep }) s1

/-- The store-damaged marks replaced. -/
def setDamaged (v : Vector Bool 12) (s : State) : State := { s with sched := { s.sched with storeDamaged := v } }

/-- The four checks of a CLOSE SETUP, one after the other over every slot (R183). -/
def checkSlots (s : State) : State :=
  allSlots.foldl sourceCheck (allSlots.foldl gateCheck (allSlots.foldl flatCheck (allSlots.foldl clampWatch s)))

/-- The four checks made with clear store-damaged marks, so that a mark tells that a read of these checks has found its slot
store-damaged (R183; log 38); the marks that stood join those found. -/
def findAndCheck (s : State) : State :=
  let s1 := checkSlots (setDamaged (Vector.replicate 12 false) s)
  setDamaged (Vector.zipWith (· || ·) s.sched.storeDamaged s1.sched.storeDamaged) s1

/-- The checks of a CLOSE SETUP (R183, R60, R73, R92), and READY when the station record is present. -/
def runChecks (s : State) : State :=
  let s1 := findAndCheck s
  if s1.link.present then setRun .ready s1 else s1

/-- The checks that wait. -/
def asChecks : RxReq → Option Unit
  | .checks => some ()
  | _ => none

/-- CLOSE_SETUP_CHECKS (R183): checks granted when the station has left SETUP do nothing (log 24). -/
def execCloseSetupChecks (s : State) : Out :=
  .next (match takeRx asChecks s with
    | none => s
    | some (_, s1) => release (if s1.link.run = .setup then runChecks s1 else s1))

end Sys2Proof.Machine
end

