-- ==== Sys2Proof/Machine/ExecRun.lean ====
section
/-! DEFINITION. Meanings: the run-control frames and STATION RESET. -/

namespace Sys2Proof.Machine

/-- A run-control frame that the run state takes (R184). A setup frame whose store access is granted is stored or aborted first,
after which the frame may be taken no more (R174; log 42), and a count that reached a step or a reversal is whole (log 1). -/
def takeFrame (taken : State → Bool) (body : State → State) (s : State) : State :=
  if taken s then
    let s1 := settleCount (runSetupStore s)
    if taken s1 then body s1 else s1
  else s

/-- Whether the run state takes an ARM NEW (R184). -/
def takesArmNew (s : State) : Bool := s.link.run == .ready || s.link.run == .hold

/-- Whether the run state takes an END (R184). -/
def takesEnd (s : State) : Bool := s.link.run == .run || s.link.run == .hold

/-- ARM_NEW (R184): an ARM frame of mode 0, taken in READY and HOLD. -/
def execArmNew (f : Frame) (s : State) : Out :=
  .next (receive 5 f (fun s =>
    if byteAt f.payload 0 = 0 then
      takeFrame takesArmNew (fun s => linkWake (finish (armNewBody (s32At f.payload 1) s))) s
    else s) s)

/-- ARM_RESUME (R184): an ARM frame of mode 1, taken in HOLD. -/
def execArmResume (f : Frame) (s : State) : Out :=
  .next (receive 5 f (fun s =>
    if byteAt f.payload 0 = 1 then
      takeFrame (fun s => s.link.run == .hold) (fun s => linkWake (finish (armResumeBody s))) s
    else s) s)

/-- HALT (R184): taken in RUN. -/
def execHalt (f : Frame) (s : State) : Out :=
  .next (receive 6 f (takeFrame (fun s => s.link.run == .run) fun s => linkWake (arbitrate (haltBody s))) s)

/-- END (R184): taken in RUN and HOLD. -/
def execEnd (f : Frame) (s : State) : Out :=
  .next (receive 7 f (takeFrame takesEnd fun s => linkWake (arbitrate (endBody s))) s)

/-- STATION_RESET (R184, R185): taken in every run state. The clearing of the stored collections is an access of the link
receiver (R175; log 16). -/
def execStationReset (f : Frame) (s : State) : Out :=
  .next (receive 8 f
    (takeFrame (fun _ => true) fun s => linkWake (arbitrate (raiseRx .clearing (stationReset s)))) s)

/-- The clearing that waits. -/
def asClearing : RxReq → Option Unit
  | .clearing => some ()
  | _ => none

/-- STATION_RESET_CLEARING (R175). -/
def execStationResetClearing (s : State) : Out :=
  .next (match takeRx asClearing s with
    | none => s
    | some (_, s1) => release (clearCollections s1))

end Sys2Proof.Machine
end

