-- ==== Sys2Proof/Machine/ExecStore.lean ====
section
/-! DEFINITION. Meanings: upsets of stored words and the scrubber. -/

namespace Sys2Proof.Machine

/-- UPSET (R166): the word keeps the changed bits until it is next written. A word the store does not have is a fault. -/
def execUpset (addr : Nat) (mask : BitVec 39) (s : State) : Out :=
  if addr < storeSize then
    .next (s.setWord addr { s.word addr with changed := (s.word addr).changed ^^^ mask })
  else .fault (.noSuchWord addr)

/-- A change of the Track Store's state. -/
def State.setStore (s : State) (f : StoreUnit → StoreUnit) : State := { s with store := f s.store }

/-- SCRUB_TIMER_EXPIRY (R173): the timer restarts; a request is raised with wait count 0, or a waiting one counts a wait. -/
def execScrubTimerExpiry (s : State) : Out :=
  .next (if s.store.scrubTimer.isSome then
      arbitrate (s.setStore fun u =>
        { u with
          scrubTimer := some scrubPeriod
          scrubReq := true
          scrubWait := if u.scrubReq then min 4 (u.scrubWait + 1) else 0
          scrubUrgent := u.scrubReq && u.scrubUrgent })
    else s)

/-- SCRUB_REQUEST_URGENT (R173): a waiting request whose wait count has reached 4 becomes urgent. -/
def execScrubRequestUrgent (s : State) : Out :=
  .next (if s.store.scrubReq ∧ 4 ≤ s.store.scrubWait then s.setStore fun u => { u with scrubUrgent := true } else s)

/-- The scrub address after a scrub read (R173). -/
def nextScrub (a : Nat) : Nat := if 1023 ≤ a then 0 else a + 1

/-- SCRUB_READ (R173, R166, R167): the granted scrub access. A request raised since the grant keeps its own wait count. -/
def execScrubRead (s : State) : Out :=
  .next (if grants s .scrubber then
      release ((readWord s.store.scrubAddr s).1.setStore fun u =>
        { u with scrubAddr := nextScrub u.scrubAddr, scrubWait := if u.scrubReq then u.scrubWait else 0,
                 scrubUrgent := u.scrubReq && u.scrubUrgent })
    else s)

end Sys2Proof.Machine
end

