-- ==== Sys2Proof/Machine/Dispatch.lean ====
section
/-! DEFINITION. The dispatch of a command to its meaning, one arm per constructor. -/

namespace Sys2Proof.Machine

def exec (i : Instr) (s : State) : Host.Outcome State Fault Refusal :=
  match i with
  | .powerOnReset encoder railPulled straps => Sys2Proof.Machine.execPowerOnReset encoder railPulled straps s
  | .encoderTransition pair => Sys2Proof.Machine.execEncoderTransition pair s
  | .step => Sys2Proof.Machine.execStep s
  | .reversal => Sys2Proof.Machine.execReversal s
  | .statusIntervalReached => Sys2Proof.Machine.execStatusIntervalReached s
  | .repetitionTimerExpiry => Sys2Proof.Machine.execRepetitionTimerExpiry s
  | .roundFormation => Sys2Proof.Machine.execRoundFormation s
  | .turnReads => Sys2Proof.Machine.execTurnReads s
  | .inZoneQuestion => Sys2Proof.Machine.execInZoneQuestion s
  | .railLineAssertion => Sys2Proof.Machine.execRailLineAssertion s
  | .railLineRelease => Sys2Proof.Machine.execRailLineRelease s
  | .arbitrationDelayExpiry => Sys2Proof.Machine.execArbitrationDelayExpiry s
  | .stuckTimerExpiry => Sys2Proof.Machine.execStuckTimerExpiry s
  | .shotCompletion transmitted samples => Sys2Proof.Machine.execShotCompletion transmitted samples s
  | .shotProcessing => Sys2Proof.Machine.execShotProcessing s
  | .expiryTest => Sys2Proof.Machine.execExpiryTest s
  | .reversalSweep => Sys2Proof.Machine.execReversalSweep s
  | .haltSweep => Sys2Proof.Machine.execHaltSweep s
  | .endSweep => Sys2Proof.Machine.execEndSweep s
  | .markerTest => Sys2Proof.Machine.execMarkerTest s
  | .markerPulseExpiry => Sys2Proof.Machine.execMarkerPulseExpiry s
  | .upset addr mask => Sys2Proof.Machine.execUpset addr mask s
  | .scrubTimerExpiry => Sys2Proof.Machine.execScrubTimerExpiry s
  | .scrubRequestUrgent => Sys2Proof.Machine.execScrubRequestUrgent s
  | .scrubRead => Sys2Proof.Machine.execScrubRead s
  | .malformedFrame bytes => Sys2Proof.Machine.execMalformedFrame bytes s
  | .lineActivity fromOther => Sys2Proof.Machine.execLineActivity fromOther s
  | .setupStation f => Sys2Proof.Machine.execSetupStation f s
  | .setupSlot f => Sys2Proof.Machine.execSetupSlot f s
  | .setupCurve f => Sys2Proof.Machine.execSetupCurve f s
  | .setupFrameStore => Sys2Proof.Machine.execSetupFrameStore s
  | .closeSetup f => Sys2Proof.Machine.execCloseSetup f s
  | .closeSetupChecks => Sys2Proof.Machine.execCloseSetupChecks s
  | .armNew f => Sys2Proof.Machine.execArmNew f s
  | .armResume f => Sys2Proof.Machine.execArmResume f s
  | .halt f => Sys2Proof.Machine.execHalt f s
  | .endRun f => Sys2Proof.Machine.execEnd f s
  | .stationReset f => Sys2Proof.Machine.execStationReset f s
  | .stationResetClearing => Sys2Proof.Machine.execStationResetClearing s
  | .shotRequest f => Sys2Proof.Machine.execShotRequest f s
  | .indication f => Sys2Proof.Machine.execIndication f s
  | .watch f => Sys2Proof.Machine.execWatch f s
  | .peerStatusFrame f => Sys2Proof.Machine.execPeerStatusFrame f s
  | .peerShotFrame f => Sys2Proof.Machine.execPeerShotFrame f s
  | .peerFrameJoin => Sys2Proof.Machine.execPeerFrameJoin s
  | .statusTimerExpiry => Sys2Proof.Machine.execStatusTimerExpiry s
  | .idleWaitExpiry => Sys2Proof.Machine.execIdleWaitExpiry s
  | .accessDelayExpiry => Sys2Proof.Machine.execAccessDelayExpiry s
  | .transmitterRead => Sys2Proof.Machine.execTransmitterRead s
  | .transmissionEnd => Sys2Proof.Machine.execTransmissionEnd s
  | .fifoRemoval => Sys2Proof.Machine.execFifoRemoval s
  | .resetPinAsserted => Sys2Proof.Machine.execResetPinAsserted s

end Sys2Proof.Machine
end

