-- ==== Sys2Proof/Safety.lean ====
section
/-! DEFINITION. What counts as a safe step, the conditions on states in which statements are made, and the invariants. -/

namespace Sys2Proof.Machine

/-- An outcome that goes on. -/
def Runs (o : Out) : Prop := ∃ t, o = .next t

/-- A step that goes on. -/
def SafeStep (s : State) : Prop := Runs (step s)

/-! Conditions. -/

/-- The words at the addresses stand as they were last written (R166). -/
def Sound (s : State) (as : List Nat) : Prop := ∀ a ∈ as, (s.word a).changed = 0

/-- The words of slot `n`'s record listed by number stand as last written. -/
def SoundSlot (s : State) (n : Slot) (ks : List Nat) : Prop := Sound s (ks.map (slotBase n + ·))

/-- The words of the items of a collection stand as last written. -/
def SoundItems {α : Type} (s : State) (base : Nat → Nat) (size : Nat) (l : List (Placed α)) : Prop :=
  ∀ x ∈ l, Sound s (wordsFrom (base x.place) size)

/-- No count waits for its STEP or REVERSAL command (log 1). -/
def Settled (s : State) : Prop := s.odo.stepReached = false ∧ s.odo.revReached = false

/-- The access in progress has met no damage in the station record (R168). -/
def Calm (s : State) : Prop := s.store.clearAtRelease = false

/-- The station record as last written. -/
def stationAt (s : State) : StationRecord := stationOfWords ((List.range 8).map fun k => (s.word k).data)

/-- A slot record as last written. -/
def slotAt (s : State) (n : Slot) : SlotRecord := slotOfWords ((List.range 12).map fun k => (s.word (slotBase n + k)).data)

/-- The curve area as last written. -/
def curveAt (s : State) (a : Area) : List (Nat × Int) := (List.range 16).map fun p => pointOfWord (s.word (pointAddr a p)).data

/-- A frame that the station receives whole and that is addressed to it (R177, R178). -/
def Arrives (s : State) (kind : Nat) (f : Frame) : Prop :=
  s.link.access ≠ .sending ∧ lengthFits kind f.payload.length = true ∧
    (f.dest.toNat = s.strap.val ∨ (f.dest.toNat = everyNode ∧ kind ≠ 8))

/-- A frame of the recorder that arrives (R178). -/
def FromRecorder (s : State) (kind : Nat) (f : Frame) : Prop := Arrives s kind f ∧ f.source.toNat = recorderNode

/-- A frame of a peer that arrives (R178). -/
def FromPeer (s : State) (kind : Nat) (f : Frame) : Prop :=
  Arrives s kind f ∧ f.source.toNat < 8 ∧ f.source.toNat ≠ s.strap.val

/-! Invariants. -/

/-- The memory has its canonical form. -/
def MemoryForm (s : State) : Prop := Memory.wf s.store.cells = true

/-- Pc lies in the track position range and the step index below 840 (01, state table). -/
def OdometryRange (s : State) : Prop := -posMax ≤ s.odo.pc ∧ s.odo.pc ≤ posMax ∧ s.odo.index ≤ 839

/-- The ten counts. -/
def Counts.all (c : Counts) : List Nat :=
  [c.reportsLost, c.watchesDropped, c.trackerSaturation, c.markerMissed, c.storeCorrected, c.storeUncorrectable,
    c.crcErrors, c.setupRefused, c.encoderErrors, c.untoldGaps]

/-- Each count of the STATUS report stops at 255 (R187). -/
def CountsBounded (s : State) : Prop := ∀ n ∈ s.link.counts.all, n ≤ 255

/-- Every list and queue holds at most its capacity. -/
def Capacities (s : State) : Prop :=
  s.conf.list.length ≤ 24 ∧ s.conf.zones.length ≤ 8 ∧ s.rep.records.length ≤ 16 ∧ s.mark.marks.length ≤ 8 ∧
    s.link.fifo.length ≤ 4 ∧ s.link.gapList.length ≤ 8 ∧ s.gain.queue.length ≤ 4

/-- The small counters of the blocks stay in their ranges (state tables of 03, 06, 07, 10, 11). -/
def CountersInRange (s : State) : Prop :=
  s.rail.deferral ≤ 15 ∧ (∀ p : Port, s.coup.noTransmit[p] ≤ 3) ∧ 1 ≤ s.trk.next ∧ s.trk.next ≤ 65535 ∧
    s.store.scrubAddr ≤ 1023 ∧ s.store.scrubWait ≤ 4 ∧ s.link.stepCount ≤ 65535

/-- The opening order lists each OPEN index once and no other (07, state table). -/
def OrderListsOpen (s : State) : Prop := s.trk.order.Nodup ∧ ∀ i : Fin 32, i ∈ s.trk.order ↔ s.trk.entries[i].isSome = true

end Sys2Proof.Machine
end

