-- ==== Sys2Proof/WellFormed.lean ====
section
/-! DEFINITION. The well-formedness of a command's operands. -/

namespace Sys2Proof

/-- Ticks strictly rising (R54: one sample a tick). -/
def risingTicks : List (Nat × Nat) → Bool
  | [] => true
  | [_] => true
  | p :: q :: rest => decide (p.1 < q.1) && risingTicks (q :: rest)

/-- A frame whose payload has a length its kind requires (R176). -/
def Frame.fits (kind : Nat) (f : Frame) : Bool := Machine.lengthFits kind f.payload.length

/-- The well-formed commands: samples in tick order, an upset of an existing word that changes a bit, bytes that make a
malformed frame, payload lengths by kind, and the mode byte that the ARM row names. -/
def Instr.wellFormed : Instr → Bool
  | .powerOnReset _ _ _ => true
  | .encoderTransition _ => true
  | .step => true
  | .reversal => true
  | .statusIntervalReached => true
  | .repetitionTimerExpiry => true
  | .roundFormation => true
  | .turnReads => true
  | .inZoneQuestion => true
  | .railLineAssertion => true
  | .railLineRelease => true
  | .arbitrationDelayExpiry => true
  | .stuckTimerExpiry => true
  | .shotCompletion _ samples => risingTicks samples
  | .shotProcessing => true
  | .expiryTest => true
  | .reversalSweep => true
  | .haltSweep => true
  | .endSweep => true
  | .markerTest => true
  | .markerPulseExpiry => true
  | .upset addr mask => decide (addr < 1024) && mask != 0
  | .scrubTimerExpiry => true
  | .scrubRequestUrgent => true
  | .scrubRead => true
  | .malformedFrame bytes => Machine.frameMalformed bytes
  | .lineActivity _ => true
  | .setupStation f => f.fits 1
  | .setupSlot f => f.fits 2
  | .setupCurve f => f.fits 3
  | .setupFrameStore => true
  | .closeSetup f => f.fits 4
  | .closeSetupChecks => true
  | .armNew f => f.fits 5 && Machine.byteAt f.payload 0 == 0
  | .armResume f => f.fits 5 && Machine.byteAt f.payload 0 == 1
  | .halt f => f.fits 6
  | .endRun f => f.fits 7
  | .stationReset f => f.fits 8
  | .stationResetClearing => true
  | .shotRequest f => f.fits 9
  | .indication f => f.fits 10
  | .watch f => f.fits 11
  | .peerStatusFrame f => f.fits 12
  | .peerShotFrame f => f.fits 13
  | .peerFrameJoin => true
  | .statusTimerExpiry => true
  | .idleWaitExpiry => true
  | .accessDelayExpiry => true
  | .transmitterRead => true
  | .transmissionEnd => true
  | .fifoRemoval => true
  | .resetPinAsserted => true

end Sys2Proof
end

