-- ==== Sys2Proof/Certificates/Slice0/Obligations.lean ====
section
/-! DEFINITION. The statements for the provers. -/

open Sys2Proof Sys2Proof.Machine

/-! The queue and the reset. -/

/-- The step carries out the command at the front of the queue with the queue's rest, and an empty queue idles (the
model's choice, log 5). -/
def Obligations.StepTakesTheQueue : Prop :=
  (∀ (c : Instr) (q : List Instr) (s : State), s.pending = c :: q → step s = exec c { s with pending := q }) ∧
    ∀ s : State, s.pending = [] → step s = .next s

/-- R14, whole: the values that the Odometry Unit takes, and that no step or reversal event is issued. -/
def Obligations.PowerOnOdometry : Prop :=
  ∀ (e : BitVec 2) (pulled : Bool) (straps : Fin 8) (s : State),
    ∃ t, exec (.powerOnReset e pulled straps) s = .next t ∧
      t.odo.ref = e ∧ t.odo.pc = 0 ∧ t.odo.posLimit = false ∧ t.odo.dir = .plus ∧ t.odo.revRun = 0 ∧ t.odo.acc = 0 ∧
      t.odo.index = 0 ∧ t.odo.countLen = 1 ∧ t.odo.stepCounts = 1 ∧ t.odo.hyst = 1 ∧ t.odo.ps = 0 ∧
      t.odo.stepReached = false ∧ t.odo.revReached = false ∧ t.store.shotReqs = []

/-- The other blocks at power-on and at the release of the RESET pin (R38, R49, R57, R59, R73, R99, R134, R150, R157, R163,
R175, R179, R185). That the access state is left IDLE by the same command, though STATUS due makes a frame ready, is the model's
choice (log 54). -/
def Obligations.PowerOnBlocks : Prop :=
  ∀ (e : BitVec 2) (pulled : Bool) (straps : Fin 8) (s : State),
    ∃ t, exec (.powerOnReset e pulled straps) s = .next t ∧ t.pending = s.pending ∧ t.strap = straps ∧
      (∀ a, t.word a = ⟨0, 0⟩) ∧ (∀ n, (slotAt t n).enable = false) ∧
      t.store.grant = none ∧ t.store.rxReqs = [] ∧ t.store.txReqs = [] ∧ t.store.markerReq = false ∧
      t.store.scrubReq = false ∧ t.store.scrubAddr = 0 ∧ t.store.scrubWait = 0 ∧ t.store.scrubTimer = some 50 ∧
      t.sched.walk = .idle ∧ t.sched.round = none ∧ t.sched.pendingRound = none ∧ t.sched.shot = none ∧
      t.sched.repTimer = none ∧ t.sched.request = none ∧ t.sched.turn = none ∧
      (∀ n : Slot, t.sched.wedge[n] = 0 ∧ t.sched.settled[n] = false ∧ t.sched.zeroFailed[n] = false ∧
        t.sched.storeDamaged[n] = false ∧
        t.coup.slots[n] = { state := .coupled, failRun := 0, passRun := 0, doubt := none, source := .interface } ∧
        t.gain.flat[n] = .clear ∧ t.gates.offI[n] = false ∧ t.gates.offA[n] = false ∧ t.gates.offB[n] = false ∧
        t.gates.syncOff[n] = false ∧ ∀ c, (t.coup.gaps[n]).get c = none ∧ (t.link.untold[n]).get c = false) ∧
      (∀ p : Port, t.coup.portFault[p] = false ∧ t.coup.noTransmit[p] = 0) ∧
      t.rail.claim = .idle ∧ t.rail.slot = none ∧ t.rail.delay = none ∧ t.rail.drive = false ∧ t.rail.deferral = 0 ∧
      t.rail.stuck = false ∧ t.rail.others = pulled ∧ (t.rail.stuckTimer.isSome = true ↔ pulled = true) ∧
      t.gain.listening = none ∧ t.gain.processing = none ∧ t.gain.queue = [] ∧
      (∀ (a : Area) (p : Piece), (t.gain.pieces[a])[p] = false) ∧
      (∀ i : Fin 32, t.trk.entries[i] = none) ∧ t.trk.order = [] ∧ t.trk.next = 1 ∧
      t.conf.list = [] ∧ t.conf.zones = [] ∧ t.rep.records = [] ∧ t.rep.locked = none ∧
      t.mark.marks = [] ∧ t.mark.on = false ∧ t.mark.pulseTimer = none ∧ t.mark.reference = none ∧
      t.mark.least = 0 ∧ t.mark.greatest = 0 ∧ t.mark.gunOffset = 0 ∧ t.mark.mode = .pulse ∧ t.mark.pulse = 1 ∧
      t.mark.length = 8 ∧ t.mark.spacing = 0 ∧
      t.link.run = .setup ∧ t.link.present = false ∧ t.link.access = .idle ∧ t.link.tx = .none ∧ t.link.holdOff = false ∧
      t.link.statusDue = true ∧ t.link.stepCount = 0 ∧ t.link.statusTimer = some 1000 ∧
      t.link.counts.all = List.replicate 10 0 ∧ t.link.clash = false ∧ t.link.gapList = [] ∧ t.link.shotBuf = none ∧
      t.link.fifo = [] ∧ t.link.partsLeft = []

/-- The RESET pin ends a shot in flight with its drive, and cuts off a transmission (R45, R179). That a claim in WAITING or
DELAY goes to IDLE with it, and that the rest takes its reset values at the release of the pin alone, is the model's choice
(log 15). -/
def Obligations.ResetPinCutsOff : Prop :=
  ∀ s : State, ∃ t, exec .resetPinAsserted s = .next t ∧ t.resetPin = true ∧ t.sched.shot = none ∧ t.gain.listening = none ∧
    t.rail.drive = false ∧ t.rail.claim = .idle ∧ t.link.access = .idle ∧ t.link.holdOff = false ∧ t.link.tx = .none ∧
    t.odo = s.odo ∧ t.store = s.store ∧ t.trk = s.trk ∧ t.conf = s.conf ∧ t.rep = s.rep ∧ t.mark = s.mark ∧ t.coup = s.coup ∧
    t.gates = s.gates ∧ t.link.run = s.link.run ∧ t.link.counts = s.link.counts ∧ t.pending = s.pending

/-! The odometry. -/

/-- The table of R1: reference, new pair, sense. -/
def legalTransitions : List (BitVec 2 × BitVec 2 × Dir) :=
  [(0, 1, .plus), (1, 3, .plus), (3, 2, .plus), (2, 0, .plus), (1, 0, .minus), (3, 1, .minus), (2, 3, .minus), (0, 2, .minus)]

/-- A legal transition makes one count (R1, R5, R6, R7, R9, R159): position, limit flag, accumulator or reversal run, and
the change of Pc offered to the Marker Unit, whose test request a free store grants (R171). Nothing else changes. That STEP
and REVERSAL complete a count that reaches S or H, and that the grant waits for them, is the model's arrangement (log 1). -/
def Obligations.LegalTransitionCounts : Prop :=
  ∀ (s : State) (pair : BitVec 2) (c : Dir), Settled s → (s.odo.ref, pair, c) ∈ legalTransitions →
    let target := s.odo.pc + (match c with | .plus => 1 | .minus => -1) * (s.odo.countLen : Int)
    let pc := max (-2147483647) (min 2147483647 target)
    let g := s.mark.gunOffset
    ∃ odo mark req,
      (let t := { s with odo := odo, mark := mark, store := { s.store with markerReq := req } }
       exec (.encoderTransition pair) s =
         .next (if odo.stepReached = true ∨ odo.revReached = true then t else arbitrate t)) ∧
      odo.ref = pair ∧ odo.pc = pc ∧ (odo.posLimit = true ↔ target ≠ pc) ∧ odo.dir = s.odo.dir ∧
      odo.index = s.odo.index ∧ odo.countLen = s.odo.countLen ∧ odo.stepCounts = s.odo.stepCounts ∧
      odo.hyst = s.odo.hyst ∧ odo.ps = s.odo.ps ∧
      (c = s.odo.dir → odo.revRun = 0 ∧ odo.acc = s.odo.acc + 1 ∧ odo.revReached = false ∧
        (odo.stepReached = true ↔ s.odo.stepCounts ≤ s.odo.acc + 1)) ∧
      (c ≠ s.odo.dir → odo.acc = 0 ∧ odo.revRun = s.odo.revRun + 1 ∧ odo.stepReached = false ∧
        (odo.revReached = true ↔ s.odo.hyst ≤ s.odo.revRun + 1)) ∧
      (pc = s.odo.pc → mark = s.mark ∧ req = s.store.markerReq) ∧
      (pc ≠ s.odo.pc → req = true ∧
        mark = { s.mark with least := min s.mark.least (min (s.odo.pc + g) (pc + g)),
                             greatest := max s.mark.greatest (max (s.odo.pc + g) (pc + g)), latest := pc + g })

/-- R2: a change of both lines makes no count, becomes the reference and is counted as an error. Beside it: the pair that
stands already changes nothing. -/
def Obligations.IllegalTransitionIsCounted : Prop :=
  ∀ (s : State) (pair : BitVec 2), Settled s →
    (pair = ~~~s.odo.ref → exec (.encoderTransition pair) s =
      .next { s with
        odo := { s.odo with ref := pair }
        link := { s.link with counts :=
          { s.link.counts with encoderErrors := min 255 (s.link.counts.encoderErrors + 1) } } }) ∧
    (pair = s.odo.ref → exec (.encoderTransition pair) s = .next s)

/-- The step event (R7, R8, R17, R19, R143, R186): index and accumulator, the status step count in RUN, the expiry test asked
for with the values of the event and, in RUN under POSITION, the formation of a round. The reversal (R10, R122, R144): Dir takes
the sense of the count, and the sweep and the expiry test are asked for. A free store is granted at once (R171). That both come
as commands of their own is the model's arrangement (log 1); that the status step count stops at 65535 is its choice (log 26), and so is it
that the STEP which brings the count to the status interval leaves STATUS due as it was (log 43). -/
def Obligations.StepAndReversalEvents : Prop :=
  (∀ s : State, s.odo.stepReached = true → Sound s [0] → Calm s →
    let index := if s.odo.index = 839 then 0 else s.odo.index + 1
    exec .step s =
      .next (arbitrate { s with
        odo := { s.odo with index := index, acc := 0, stepReached := false }
        link := { s.link with stepCount := if s.link.run = .run then min 65535 (s.link.stepCount + 1) else s.link.stepCount }
        store := { s.store with shotReqs := s.store.shotReqs ++
          [(if s.link.run = .run ∧ (stationAt s).trigger = .position then
              [.formation .step (some index) s.odo.pc true] else []) ++ [.expiry s.odo.pc s.odo.dir]] } })) ∧
  ∀ s : State, s.odo.revReached = true →
    let dir := match s.odo.dir with | .plus => Dir.minus | .minus => Dir.plus
    exec .reversal s =
      .next (arbitrate { s with
        odo := { s.odo with dir := dir, revRun := 0, revReached := false }
        store := { s.store with shotReqs := s.store.shotReqs ++ [[.sweep .reversal, .expiry s.odo.pc dir]] } })

/-! The Track Store. -/

/-- The arbiter (R170, R171, R173, R174): an urgent scrub request first, then by priority; a held grant stays while requests
arise; a free store is granted to a request that waits, with the run state and the waiting requests of shot processing as they
stand then, and a granted scrub request waits no longer; a release frees the store and grants it again. A request of shot
processing that arises during an access waits, and a formation does not go before an expiry test that arose before it. That the
grant and what stands at it are held between commands, a request staying in its list until its command takes it, is the model's
arrangement (log 3), and so is it that a command of a requester which does not hold the grant changes nothing (log 2). -/
def Obligations.ArbiterPriority : Prop :=
  ∀ s : State,
    let urgent := s.store.scrubReq = true ∧ (s.store.scrubUrgent = true ∨ 4 ≤ s.store.scrubWait)
    (urgent → nextGrant s = some .scrubber) ∧
    (¬urgent → s.store.shotReqs ≠ [] → nextGrant s = some .shot) ∧
    (¬urgent → s.store.shotReqs = [] → s.store.rxReqs ≠ [] → nextGrant s = some .receiver) ∧
    (¬urgent → s.store.shotReqs = [] → s.store.rxReqs = [] → s.store.txReqs ≠ [] → nextGrant s = some .transmitter) ∧
    (¬urgent → s.store.shotReqs = [] → s.store.rxReqs = [] → s.store.txReqs = [] → s.store.markerReq = true →
      nextGrant s = some .marker) ∧
    (¬urgent → s.store.shotReqs = [] → s.store.rxReqs = [] → s.store.txReqs = [] → s.store.markerReq = false →
      nextGrant s = if s.store.scrubReq then some .scrubber else none) ∧
    (s.store.grant ≠ none → arbitrate s = s) ∧
    (s.store.grant = none → nextGrant s = none → arbitrate s = s) ∧
    (∀ g, s.store.grant = none → nextGrant s = some g → arbitrate s = { s with store := { s.store with
      grant := some g, grantRun := s.link.run, grantShots := s.store.shotReqs.length
      scrubReq := s.store.scrubReq && g != .scrubber } }) ∧
    (Calm s → release s = linkWake (arbitrate { s with store := { s.store with grant := none } })) ∧
    (∀ (α : Type) (f : ShotReq → Option α) (x : α) (t : State), takeShot f s = some (x, t) →
      s.store.grant = some .shot ∧ ∃ left, t = { s with store := { s.store with
        shotReqs := left ++ s.store.shotReqs.drop s.store.grantShots } }) ∧
    (∀ pc dir rest, s.store.shotReqs = [.expiry pc dir] :: rest → exec .roundFormation s = .next s) ∧
    (s.store.grant ≠ some .shot → ∀ c ∈ [Instr.roundFormation, .turnReads, .inZoneQuestion, .shotProcessing, .expiryTest,
      .reversalSweep, .haltSweep, .endSweep], exec c s = .next s) ∧
    (s.store.grant ≠ some .receiver → ∀ c ∈ [Instr.setupFrameStore, .closeSetupChecks, .peerFrameJoin,
      .stationResetClearing], exec c s = .next s) ∧
    (s.store.grant ≠ some .transmitter → ∀ c ∈ [Instr.transmitterRead, .fifoRemoval], exec c s = .next s) ∧
    (s.store.grant ≠ some .marker → exec .markerTest s = .next s) ∧
    (s.store.grant ≠ some .scrubber → exec .scrubRead s = .next s)

/-- An upset changes the bits of its mask in one word and nothing else (R166). An upset of a word that the store does not
have stops (the model's choice: INVENTORY, Faults). -/
def Obligations.UpsetChangesOneWord : Prop :=
  ∀ (a : Nat) (mask : BitVec 39) (s : State), MemoryForm s →
    (a < 1024 → ∃ cells, exec (.upset a mask) s = .next { s with store := { s.store with cells := cells } } ∧
      (∀ t : State, t.store.cells = cells →
        (t.word a).data = (s.word a).data ∧ (t.word a).changed = (s.word a).changed ^^^ mask ∧
        ∀ b, b ≠ a → t.word b = s.word b)) ∧
    (1024 ≤ a → exec (.upset a mask) s = .fault (.noSuchWord a))

/-- Whether an address of the store lies in the words of an item that no owner holds, or of an absent station record, so that
its word is not live (R165). Words of slot records always are. -/
def notLive (s : State) (a : Nat) : Prop :=
  (a < 16 ∧ s.link.present = false) ∨
  (∃ (c : Area) (p : Piece), 304 + 16 * c.val + 4 * p.val ≤ a ∧ a < 308 + 16 * c.val + 4 * p.val ∧
    (s.gain.pieces[c])[p] = false) ∨
  (∃ i : Fin 32, 432 + 8 * i.val ≤ a ∧ a < 440 + 8 * i.val ∧ s.trk.entries[i] = none) ∨
  (∃ p < 24, 688 + 4 * p ≤ a ∧ a < 692 + 4 * p ∧ ∀ x ∈ s.conf.list, x.place ≠ p) ∨
  (∃ p < 8, 784 + 4 * p ≤ a ∧ a < 788 + 4 * p ∧ ∀ x ∈ s.conf.zones, x.place ≠ p) ∨
  (∃ p < 4, 816 + 4 * p ≤ a ∧ a < 820 + 4 * p ∧ ∀ x ∈ s.link.fifo, x.place ≠ p) ∨
  (∃ p < 16, 832 + 11 * p ≤ a ∧ a < 843 + 11 * p ∧ ∀ x ∈ s.rep.records, x.place ≠ p) ∨
  (∃ p < 8, 1008 + 2 * p ≤ a ∧ a < 1010 + 2 * p ∧ ∀ x ∈ s.mark.marks, x.place ≠ p)

/-- The coupling of every slot COUPLED with empty runs and no doubt position, its source kept, and no port faulted (R99,
R101). -/
def couplingFresh (s t : State) : Prop :=
  (∀ n : Slot, t.coup.slots[n] =
    { state := .coupled, failRun := 0, passRun := 0, doubt := none, source := s.coup.slots[n].source }) ∧
  ∀ p : Port, t.coup.noTransmit[p] = 0 ∧ t.coup.portFault[p] = false

/-- The FIFO after a clearing (R180): only the head of a frame in transmission stays. -/
def fifoCleared (s : State) : List (Placed WatchOut) :=
  match s.link.tx with
  | .sending .watch _ => s.link.fifo.take 1
  | _ => []

/-- The waiting requests of shot processing as the station leaves RUN (R17, R30): turns and formations are given up. -/
def givenUp (l : List (List ShotReq)) : List (List ShotReq) :=
  l.map fun g => g.map fun r =>
    match r with | .turn n _ => .turn n false | .formation o i p _ => .formation o i p false | x => x

/-- The Scheduler and the rail as the station leaves RUN (R30, R50): the rounds end, the shot in flight is void, the
repetition timer stops, and a claim that waits is abandoned. -/
def leftRun (s t : State) : Prop :=
  t.sched.round = none ∧ t.sched.pendingRound = none ∧ t.sched.repTimer = none ∧ t.sched.turn = none ∧
  t.sched.shot = s.sched.shot.map (fun x => { x with void := true }) ∧
  t.sched.walk = (if s.sched.shot.isSome then .shot else .idle) ∧
  t.rail = if s.rail.claim = .waiting ∨ s.rail.claim = .delay then
    { s.rail with claim := .idle, slot := none, delay := none } else s.rail

/-- Every block as at a STATION RESET frame, but for the stored collections (R15, R17, R30, R35, R36, R46, R59, R99, R101, R103,
R163, R180, R185, R186). -/
def blocksReset (s t : State) : Prop :=
  t.link.run = .setup ∧ t.link.statusDue = true ∧ t.link.partsLeft = [] ∧ t.link.stepCount = 0 ∧
  t.link.statusTimer = some 1000 ∧ t.link.counts.all = List.replicate 10 0 ∧ t.link.clash = false ∧ t.link.gapList = [] ∧
  t.link.shotBuf = none ∧ (∀ (n : Slot) (c : GapCause), (t.link.untold[n]).get c = false) ∧ t.link.fifo = fifoCleared s ∧
  t.link.tx = s.link.tx ∧ leftRun { s with rail := { s.rail with deferral := 0 } } t ∧ t.sched.request = none ∧
  t.store.shotReqs = givenUp s.store.shotReqs ∧
  t.sched.wedge = s.sched.wedge ∧
  (∀ n : Slot, t.sched.settled[n] = false ∧ t.sched.zeroFailed[n] = false ∧ t.sched.storeDamaged[n] = false ∧
    ∀ c, (t.coup.gaps[n]).get c = none) ∧
  (∀ (a : Area) (p : Piece), (t.gain.pieces[a])[p] = false) ∧ t.gain.flat = s.gain.flat ∧
  couplingFresh s t ∧ t.odo = { s.odo with acc := 0, revRun := 0, index := 0 } ∧
  t.mark.on = false ∧ t.mark.pulseTimer = none ∧ t.mark.reference = none ∧ t.mark.gunOffset = s.mark.gunOffset ∧
  t.mark.mode = s.mark.mode ∧ t.mark.pulse = s.mark.pulse ∧ t.mark.length = s.mark.length ∧ t.mark.spacing = s.mark.spacing

/-- The stored collections empty, the next number 1 (R134, R150, R156, R163). -/
def collectionsEmpty (t : State) : Prop :=
  (∀ i : Fin 32, t.trk.entries[i] = none) ∧ t.trk.order = [] ∧ t.trk.next = 1 ∧ t.conf.list = [] ∧ t.conf.zones = [] ∧
  t.rep.records = [] ∧ t.rep.locked = none ∧ t.mark.marks = []

/-- A scrub read (R173), of a word with no changed bit or one (R166): the word then stands without error and every other
word as before, and a corrected bit is counted. Of a word with two changed bits (R167): the error is counted; a word that is
not live is cleared; the owner of a live one acts within the read, and the word is left in error: the slot becomes
store-damaged (R35), the piece loses its flag and the slots naming the area take flat gain DAMAGED (R61), the entry is freed
(R124), the confirmation entry or zone leaves (R147), an entry of the FIFO that is not its head leaves and is counted dropped,
a record of an unlocked queue leaves and is counted lost (R155), a mark leaves and is counted missed (R162), and the station
record becomes absent and the station returns to SETUP (R168). That the slots naming an area are found by reading their
records is the model's choice (log 37): those records are taken as sound. -/
def Obligations.ScrubReadActsOnItsWord : Prop :=
  ∀ s : State, s.store.grant = some .scrubber → s.store.scrubAddr ≤ 1023 → MemoryForm s → Calm s →
    let a := s.store.scrubAddr
    let found := bitCount 39 (s.word a).changed
    let moved := { s.store with
      scrubAddr := if a = 1023 then 0 else a + 1
      scrubWait := if s.store.scrubReq then s.store.scrubWait else 0
      scrubUrgent := s.store.scrubReq && s.store.scrubUrgent }
    let counted := { s.link.counts with storeUncorrectable := min 255 (s.link.counts.storeUncorrectable + 1) }
    let u : State := { s with store := moved, link := { s.link with counts := counted } }
    let result := exec .scrubRead s
    (found ≤ 1 → ∃ cells, result =
        .next (release { s with
          store := { moved with cells := cells }
          link := { s.link with counts :=
            { s.link.counts with
              storeCorrected := if found = 1 then min 255 (s.link.counts.storeCorrected + 1)
                else s.link.counts.storeCorrected } } }) ∧
      ∀ t : State, t.store.cells = cells →
        (t.word a).data = (s.word a).data ∧ (t.word a).changed = 0 ∧ ∀ b, b ≠ a → t.word b = s.word b) ∧
    (found = 2 → notLive s a → ∃ cells, result = .next (release { u with store := { moved with cells := cells } }) ∧
      ∀ t : State, t.store.cells = cells → t.word a = ⟨0, 0⟩ ∧ ∀ b, b ≠ a → t.word b = s.word b) ∧
    (∀ n : Slot, found = 2 → 16 + 24 * n.val ≤ a → a < 40 + 24 * n.val →
      ∃ marks : Vector Bool 12, result = .next (release { u with sched := { s.sched with storeDamaged := marks } }) ∧
        ∀ m : Slot, marks[m] = (s.sched.storeDamaged[m] || m == n)) ∧
    (∀ (c : Area) (p : Piece), found = 2 → 304 + 16 * c.val + 4 * p.val ≤ a → a < 308 + 16 * c.val + 4 * p.val →
      (s.gain.pieces[c])[p] = true → (∀ n, SoundSlot s n [1]) →
      ∃ (pieces : Vector (Vector Bool 4) 8) (flat : Vector FlatGain 12),
        result = .next (release { u with gain := { s.gain with pieces := pieces, flat := flat } }) ∧
        (∀ (c' : Area) (p' : Piece), (pieces[c'])[p'] = ((s.gain.pieces[c'])[p'] && !(c' == c && p' == p))) ∧
        ∀ n : Slot, flat[n] = if (slotAt s n).area = some c then .damaged else s.gain.flat[n]) ∧
    (∀ i : Fin 32, found = 2 → 432 + 8 * i.val ≤ a → a < 440 + 8 * i.val → s.trk.entries[i].isSome = true →
      ∃ entries : Vector (Option Entry) 32,
        result = .next (release { u with trk := { s.trk with
          entries := entries, order := s.trk.order.filter fun j => !(j == i) } }) ∧
        entries[i] = none ∧ ∀ j : Fin 32, j ≠ i → entries[j] = s.trk.entries[j]) ∧
    (∀ p < 24, found = 2 → 688 + 4 * p ≤ a → a < 692 + 4 * p → (∃ x ∈ s.conf.list, x.place = p) →
      result = .next (release { u with conf := { s.conf with list := s.conf.list.filter fun x => !(x.place == p) } })) ∧
    (∀ p < 8, found = 2 → 784 + 4 * p ≤ a → a < 788 + 4 * p → (∃ x ∈ s.conf.zones, x.place = p) →
      result = .next (release { u with conf := { s.conf with zones := s.conf.zones.filter fun x => !(x.place == p) } })) ∧
    (∀ p < 4, ∀ w rest, found = 2 → 816 + 4 * p ≤ a → a < 820 + 4 * p → s.link.fifo = w :: rest → w.place ≠ p →
      (∃ x ∈ rest, x.place = p) →
      result = .next (release { u with link := { s.link with
        fifo := s.link.fifo.filter fun x => !(x.place == p)
        counts := { counted with watchesDropped := min 255 (s.link.counts.watchesDropped + 1) } } })) ∧
    (∀ p < 16, found = 2 → 832 + 11 * p ≤ a → a < 843 + 11 * p → (∃ x ∈ s.rep.records, x.place = p) →
      s.rep.locked = none →
      result = .next (release { u with
        rep := { s.rep with records := s.rep.records.filter fun x => !(x.place == p) }
        link := { s.link with counts := { counted with reportsLost := min 255 (s.link.counts.reportsLost + 1) } } })) ∧
    (∀ p < 8, found = 2 → 1008 + 2 * p ≤ a → a < 1010 + 2 * p → (∃ x ∈ s.mark.marks, x.place = p) →
      result = .next (release { u with
        mark := { s.mark with marks := s.mark.marks.filter fun x => !(x.place == p) }
        link := { s.link with counts := { counted with markerMissed := min 255 (s.link.counts.markerMissed + 1) } } })) ∧
    (found = 2 → a < 16 → s.link.present = true → Settled s →
      ∃ t, result = .next t ∧ t.link.present = false ∧ blocksReset s t ∧ collectionsEmpty t ∧
        t.store.cells = s.store.cells ∧ t.store.rxReqs = s.store.rxReqs ∧ t.store.markerReq = s.store.markerReq)

/-! The marker. -/

/-- Whether a mark is fired by a test (R159): a fresh one by the gun position at the test, another by the swept range. -/
def firesAt (u : MarkerUnit) (m : Mark) : Bool :=
  match m.side with
  | .plus => decide (m.pos ≤ if m.fresh then u.latest else u.greatest)
  | .minus => decide ((if m.fresh then u.latest else u.least) ≤ m.pos)

/-- The granted test of the marker queue on sound words (R159, R160, R161). The marks that do not fire stay in their places and in
join order, and are fresh no longer. -/
def Obligations.MarkerTestFires : Prop :=
  ∀ s : State, s.store.grant = some .marker → SoundItems s markBase 2 s.mark.marks → Calm s →
    ∃ u, exec .markerTest s =
        .next (release { s with mark := u, store := { s.store with markerReq := false } }) ∧
      u.marks = (s.mark.marks.filter fun x => !firesAt s.mark x.item).map
        (fun x => { x with item := { x.item with fresh := false } }) ∧
      u.least = s.mark.latest ∧ u.greatest = s.mark.latest ∧ u.latest = s.mark.latest ∧
      u.gunOffset = s.mark.gunOffset ∧ u.mode = s.mark.mode ∧ u.pulse = s.mark.pulse ∧ u.length = s.mark.length ∧
      u.spacing = s.mark.spacing ∧
      ((∃ x ∈ s.mark.marks, firesAt s.mark x.item) →
        u.on = true ∧
        (s.mark.mode = .pulse → u.pulseTimer = some s.mark.pulse ∧ u.reference = s.mark.reference) ∧
        (s.mark.mode = .level → u.pulseTimer = s.mark.pulseTimer ∧
          ∃ before after x, s.mark.marks = before ++ x :: after ∧ firesAt s.mark x.item ∧
            (∀ y ∈ after, ¬firesAt s.mark y.item) ∧ u.reference = some x.item.pos)) ∧
      ((∀ x ∈ s.mark.marks, ¬firesAt s.mark x.item) → u.pulseTimer = s.mark.pulseTimer ∧
        ((s.mark.mode = .level ∧ s.mark.on = true ∧
            ∃ r, s.mark.reference = some r ∧ (s.mark.length : Int) ≤ |s.mark.latest - r|) →
          u.on = false ∧ u.reference = none) ∧
        (¬(s.mark.mode = .level ∧ s.mark.on = true ∧
            ∃ r, s.mark.reference = some r ∧ (s.mark.length : Int) ≤ |s.mark.latest - r|) →
          u.on = s.mark.on ∧ u.reference = s.mark.reference))

/-! Rounds and turns. -/

/-- What an expiry of a timer does, the urgent scrub request, and the status interval (R20, R21, R160, R171, R173, R186): the
marker output turns OFF; in RUN a round is asked for at the Pc of the expiry and the timer keeps its period; a scrub request is
raised with wait count 0, or one that waits counts a wait, and the fourth makes it urgent; STATUS becomes due, and outside RUN
the status timer restarts with 1 s. A free store is granted at once. That the status interval is read, and STATUS becomes due, at a
command of its own after the step is the model's choice (logs 10 and 43); two changed bits in its word return the station to SETUP
without its record (R168). -/
def Obligations.TimerExpiries : Prop :=
  ∀ s : State,
    (∀ time, s.mark.pulseTimer = some time →
      exec .markerPulseExpiry s = .next { s with mark := { s.mark with on := false, pulseTimer := none } }) ∧
    (∀ period, s.link.run = .run → s.sched.repTimer = some period →
      exec .repetitionTimerExpiry s = .next (arbitrate { s with store := { s.store with
        shotReqs := s.store.shotReqs ++ [[.formation .timer none s.odo.pc true]] } })) ∧
    (s.store.scrubTimer.isSome = true → s.store.scrubReq = false → exec .scrubTimerExpiry s =
      .next (arbitrate { s with store := { s.store with
        scrubTimer := some 50, scrubReq := true, scrubWait := 0, scrubUrgent := false } })) ∧
    (s.store.scrubTimer.isSome = true → s.store.scrubReq = true → exec .scrubTimerExpiry s =
      .next (arbitrate { s with store := { s.store with
        scrubTimer := some 50, scrubWait := min 4 (s.store.scrubWait + 1) } })) ∧
    (s.store.scrubReq = true → s.store.scrubWait = 4 → exec .scrubRequestUrgent s =
      .next { s with store := { s.store with scrubUrgent := true } }) ∧
    (s.link.run = .run → Sound s [7] → Calm s → (stationAt s).statusInterval ≤ s.link.stepCount →
      exec .statusIntervalReached s =
        .next (linkWake (arbitrate { s with link := { s.link with statusDue := true } }))) ∧
    (s.link.run = .run → Sound s [7] → s.link.stepCount < (stationAt s).statusInterval →
      exec .statusIntervalReached s = .next s) ∧
    (s.link.run = .run → bitCount 39 (s.word 7).changed = 2 → s.link.present = true → Settled s →
      ∃ t, exec .statusIntervalReached s = .next t ∧ t.link.present = false ∧ blocksReset s t ∧ collectionsEmpty t ∧
        t.store.cells = s.store.cells) ∧
    (s.link.statusTimer.isSome = true →
      exec .statusTimerExpiry s =
        .next (linkWake { s with link := { s.link with statusDue := true, statusTimer := some 1000 } }))

/-- A granted formation, on sound slot records (R17, R19, R21): in RUN the due slots are those enabled whose divisor divides
the step index, or every enabled slot of a TIMER round, in slot order, and the round is formed; outside RUN it forms no round.
That a formation raised in an earlier stay in RUN forms none either, and that such an access reads nothing, is the model's
choice (log 19). -/
def Obligations.FormationGathersDueSlots : Prop :=
  ∀ (s s1 : State) (o : Origin) (index : Option Nat) (pos : Int) (isLive : Bool),
    takeShot asFormation s = some ((o, index, pos, isLive), s1) → (∀ n, SoundSlot s n [0]) →
    (isLive = true → s.link.run = .run →
      ∃ due, exec .roundFormation s =
          .next (release (newRound { origin := o, index := index, pos := pos, due := due, todo := due } s1)) ∧
        due.Pairwise (· < ·) ∧
        ∀ n, n ∈ due ↔ (slotAt s n).enable = true ∧
          (o = .timer ∨ (o = .step ∧ index.getD 0 % (slotAt s n).divisor = 0))) ∧
    ((isLive = false ∨ s.link.run ≠ .run) → exec .roundFormation s = .next (release s1))

/-- A gap after a skip of some slots at a position (R28, R103): of a slot skipped it opens at the position or extends to it,
its from position kept. -/
def gapAfter (g : Option Gap) (skipped : Prop) [Decidable skipped] (pos : Int) : Option Gap :=
  if skipped then some { fromPos := (g.map (·.fromPos)).getD pos, toPos := pos } else g

/-- The OVERRUN gap of a slot when the round in flight and then the pending round are given up (R26, R27, R30). -/
def overrunGap (s : State) (n : Slot) : Option Gap :=
  let g := match s.sched.round with
    | some r => gapAfter ((s.coup.gaps[n]).get .overrun) (n ∈ r.todo) r.pos
    | none => (s.coup.gaps[n]).get .overrun
  match s.sched.pendingRound with
  | some p => gapAfter g (n ∈ p.due) p.pos
  | none => g

/-- The turns that wait for their reads, marked as given up (R26). -/
def turnsGivenUp (l : List (List ShotReq)) : List (List ShotReq) :=
  l.map fun g => g.map fun r => match r with | .turn n _ => .turn n false | x => x

/-- A newly formed round (R22, R23, R26, R27, R28, R50, R103). With a shot in flight it becomes pending: the round in flight
ends, a pending round is replaced, and their slots not yet disposed of take OVERRUN gaps. With none it starts, a round in
flight overrun in the same way with its waiting claim abandoned and its waiting turn given up: store-damaged slots before the
first sound one are skipped STORE, that one waits READING for its reads, and a round without such a slot is over at once. -/
def Obligations.NewRoundStartsOrOverruns : Prop :=
  ∀ (s : State) (new : Round),
    let t := newRound new s
    let abandoned := if s.rail.claim = .waiting ∨ s.rail.claim = .delay then
      { s.rail with claim := .idle, slot := none, delay := none } else s.rail
    let requests := if s.sched.round.isSome then turnsGivenUp s.store.shotReqs else s.store.shotReqs
    t.rail = (if s.sched.round.isSome then abandoned else s.rail) ∧ t.sched.shot = s.sched.shot ∧
    t.odo = s.odo ∧ t.trk = s.trk ∧ t.gain = s.gain ∧ t.store.cells = s.store.cells ∧
    (∀ (n : Slot) (c : GapCause), (c = .port ∨ c = .coupling) → (t.coup.gaps[n]).get c = (s.coup.gaps[n]).get c) ∧
    (∀ sh : Shot, s.sched.shot = some sh →
      t.sched.round = none ∧ t.sched.pendingRound = some new ∧ t.store.shotReqs = requests ∧
      (s.sched.round.isSome = true → t.sched.walk = .shot) ∧ (s.sched.round = none → t.sched.walk = s.sched.walk) ∧
      ∀ n : Slot, (t.coup.gaps[n]).get .overrun = overrunGap s n ∧
        (t.coup.gaps[n]).get .store = (s.coup.gaps[n]).get .store) ∧
    (s.sched.shot = none →
      t.sched.pendingRound = s.sched.pendingRound ∧ t.sched.turn = none ∧
      (∀ n : Slot, (t.coup.gaps[n]).get .overrun =
        match s.sched.round with
        | some r => gapAfter ((s.coup.gaps[n]).get .overrun) (n ∈ r.todo) r.pos
        | none => (s.coup.gaps[n]).get .overrun) ∧
      (∀ before n rest, new.due = before ++ n :: rest → (∀ m ∈ before, s.sched.storeDamaged[m] = true) →
        s.sched.storeDamaged[n] = false →
        t.sched.round = some { new with todo := n :: rest } ∧ t.sched.walk = .reading ∧
        t.store.shotReqs = requests ++ [[.turn n true]] ∧
        ∀ m : Slot, (t.coup.gaps[m]).get .store = gapAfter ((s.coup.gaps[m]).get .store) (m ∈ before) new.pos) ∧
      ((∀ m ∈ new.due, s.sched.storeDamaged[m] = true) →
        t.sched.round = none ∧ t.sched.walk = .idle ∧ t.store.shotReqs = requests ∧
        ∀ m : Slot, (t.coup.gaps[m]).get .store = gapAfter ((s.coup.gaps[m]).get .store) (m ∈ new.due) new.pos))

/-- The due slots still ahead of a walk: those before the first that is not store-damaged are skipped STORE (R23). -/
def ahead (u : Scheduler) (l : List Slot) : List Slot := l.dropWhile fun n => u.storeDamaged[n]

/-- A round at its first turn among the slots given, or none where it ends (R22, R23). -/
def atTurnOf (u : Scheduler) (r : Round) (l : List Slot) : Option Round :=
  if ahead u l = [] then none else some { r with todo := ahead u l }

/-- The round in flight with the slots it still has, as a walk goes on. -/
def inFlight (u : Scheduler) (left : Option (Round × List Slot)) : Option Round := left.bind fun x => atTurnOf u x.1 x.2

/-- How a walk goes on (R22, R25): to the next turn of the round in flight, or, with that round over and no shot in flight, to the
first turn of the pending round. The round in flight and the pending round after it. -/
def walkOutcome (u : Scheduler) (left : Option (Round × List Slot)) : Option Round × Option Round :=
  if (inFlight u left).isSome || u.shot.isSome then (inFlight u left, u.pendingRound)
  else (u.pendingRound.bind fun p => atTurnOf u p p.due, none)

/-- The STORE gap of a slot after a walk has gone on: that of a slot passed over opens or extends to its round's position (R28). -/
def walkGap (u : Scheduler) (left : Option (Round × List Slot)) (n : Slot) (g : Option Gap) : Option Gap :=
  let passed := fun l : List Slot => l.takeWhile fun m => u.storeDamaged[m]
  let g1 := match left with | some x => gapAfter g (n ∈ passed x.2) x.1.pos | none => g
  match u.pendingRound with
  | some p => if (inFlight u left).isSome || u.shot.isSome then g1 else gapAfter g1 (n ∈ passed p.due) p.pos
  | none => g1

/-- The request of the turn to which a walk has gone on. -/
def turnAsked (r : Option Round) : List ShotReq :=
  match r with
  | some r => r.todo.head?.toList.map fun n => .turn n true
  | none => []

/-- Requests that arise together behind those that wait. -/
def asked (l : List (List ShotReq)) (rs : List ShotReq) : List (List ShotReq) := if rs.isEmpty then l else l ++ [rs]

/-- The Scheduler's walk after it has gone on (R22, R23, R25). -/
def walked (u : Scheduler) (left : Option (Round × List Slot)) (t : State) : Prop :=
  t.sched.round = (walkOutcome u left).1 ∧ t.sched.pendingRound = (walkOutcome u left).2 ∧ t.sched.turn = none ∧
    t.sched.walk = if (walkOutcome u left).1.isSome then .reading else .idle

/-- A turn that fires nothing (R17, R23, R28, R35, R101, R102, R103). Damage found by its reads, and a store-damaged mark set
while they waited, skip the slot STORE; a faulted port skips it PORT; the gap of slot and cause opens or extends to the round
position, and the walk goes on: past store-damaged slots, each skipped STORE, to the next turn, to that of a pending round, or to
IDLE. A turn given up (R26) makes its reads and changes nothing else, the model's reading (log 20). That the reads run upward and
end at the first double error, so that damage in word 0 is counted once whatever word 1 holds, is the model's choice (log 8). -/
def Obligations.TurnSkipsSlot : Prop :=
  ∀ (s s1 : State) (n : Slot) (isLive : Bool), takeShot asTurn s = some ((n, isLive), s1) → Calm s →
    let word := fun k => s.word (slotBase n + k)
    let sound := SoundSlot s n [0, 1]
    let damage := bitCount 39 (word 0).changed = 2 ∨ ((word 0).changed = 0 ∧ bitCount 39 (word 1).changed = 2)
    let store := (sound ∧ s.sched.storeDamaged[n] = true) ∨ damage
    let port := sound ∧ s.sched.storeDamaged[n] = false ∧ s.coup.portFault[(slotAt s n).txPort] = true
    (isLive = false → sound → exec .turnReads s = .next (release s1)) ∧
    (∀ (r : Round) (rest : List Slot), isLive = true → s.sched.round = some r → r.todo = n :: rest → (store ∨ port) →
      ∃ t, exec .turnReads s = .next t ∧ t.sched.shot = s.sched.shot ∧ t.rail = s.rail ∧ t.gain = s.gain ∧
        t.odo = s.odo ∧ t.trk = s.trk ∧ t.store.cells = s.store.cells ∧
        (store → t.sched.storeDamaged[n] = true) ∧ (port → t.sched.storeDamaged[n] = false) ∧
        (∀ m : Slot, m ≠ n → t.sched.storeDamaged[m] = s.sched.storeDamaged[m]) ∧
        (damage → t.link.counts.storeUncorrectable = min 255 (s.link.counts.storeUncorrectable + 1)) ∧
        (let u := { s.sched with storeDamaged := t.sched.storeDamaged }
         walked u (some (r, rest)) t ∧ t.store.shotReqs = asked s1.store.shotReqs (turnAsked t.sched.round) ∧
         ∀ m : Slot,
           (t.coup.gaps[m]).get .store =
             walkGap u (some (r, rest)) m
               (gapAfter ((s.coup.gaps[m]).get .store) (m = n ∧ t.sched.storeDamaged[n] = true) r.pos) ∧
           (t.coup.gaps[m]).get .port =
             gapAfter ((s.coup.gaps[m]).get .port) (m = n ∧ t.sched.storeDamaged[n] = false) r.pos ∧
           (t.coup.gaps[m]).get .overrun = (s.coup.gaps[m]).get .overrun ∧
           (t.coup.gaps[m]).get .coupling = (s.coup.gaps[m]).get .coupling))

/-- The turn of a local slot that is not store-damaged, on sound words, its port not faulted (R17, R23, R24, R51, R54): it fires
at once, and the rail unit is untouched. The access for the boost decision asked for at the fire is the model's choice (log 12),
and so is the reading of the noise floor at the fire (log 10). -/
def Obligations.LocalTurnFires : Prop :=
  ∀ (s s1 : State) (n : Slot) (r : Round) (rest : List Slot),
    takeShot asTurn s = some ((n, true), s1) → s.sched.round = some r → r.todo = n :: rest →
    SoundSlot s n [0, 1] → Sound s [2] → s.sched.storeDamaged[n] = false →
    s.coup.portFault[(slotAt s n).txPort] = false → (slotAt s n).claimsRail = false → Calm s →
    let turn : Turn := { txPort := (slotAt s n).txPort, rxPort := (slotAt s n).rxPort, quiet := (slotAt s n).quiet,
                         autoZero := (slotAt s n).autoZero }
    exec .turnReads s =
      .next (release { s with
        sched := { s.sched with
          round := some { r with todo := rest }, turn := none, walk := .shot
          shot := some { slot := n, firePos := s.odo.pc, settle := !s.sched.settled[n], unclaimed := false, void := false,
                         turn := turn, decision := none } }
        gain := { s.gain with
          listening := some { port := (slotAt s n).rxPort, noiseFloor := (stationAt s).noiseFloor } }
        store := { s1.store with shotReqs := s1.store.shotReqs ++ [[.zone n s.odo.pc]] } })

/-- The fire of a claiming slot at a grant, with the mark of STUCK (R24, R44, R45, R48). -/
def firedClaim (s : State) (r : Round) (n : Slot) (rest : List Slot) (turn : Turn) (unclaimed stuck : Bool) : State :=
  { s with
    sched := { s.sched with
      round := some { r with todo := rest }, turn := none, walk := .shot
      shot := some { slot := n, firePos := s.odo.pc, settle := !s.sched.settled[n], unclaimed := unclaimed, void := false,
                     turn := turn, decision := none } }
    rail := { s.rail with claim := .holding, delay := none, deferral := 0, drive := true, stuckTimer := none, stuck := stuck }
    gain := { s.gain with listening := some { port := turn.rxPort, noiseFloor := (stationAt s).noiseFloor } }
    store := { s.store with shotReqs := s.store.shotReqs ++ [[.zone n s.odo.pc]] } }

/-- The turn of a claiming slot that is not store-damaged, on sound words, its port not faulted, the rail unit in IDLE (R23,
R40, R42, R48): with STUCK clear and the line free the arbitration delay starts, with the line asserted the claim waits, and
under STUCK it is granted at once and the slot fires unclaimed. The access for the boost decision at that fire, and the reading
of the noise floor there, are the model's choice (logs 12 and 10). -/
def Obligations.ClaimingTurnAsksForRail : Prop :=
  ∀ (s s1 : State) (n : Slot) (r : Round) (rest : List Slot),
    takeShot asTurn s = some ((n, true), s1) → s.sched.round = some r → r.todo = n :: rest →
    SoundSlot s n [0, 1] → s.sched.storeDamaged[n] = false → s.coup.portFault[(slotAt s n).txPort] = false →
    (slotAt s n).claimsRail = true → Calm s → s.rail.claim = .idle →
    let turn : Turn := { txPort := (slotAt s n).txPort, rxPort := (slotAt s n).rxPort, quiet := (slotAt s n).quiet,
                         autoZero := (slotAt s n).autoZero }
    let length := 4 + 2 * (if s.rail.deferral < 2 then s.strap.val + 8 else s.strap.val)
    let asserted := s.rail.drive = true ∨ s.rail.others = true
    let claims := fun rail => { s1 with sched := { s.sched with turn := some turn, walk := .claiming }, rail := rail }
    (s.rail.stuck = false → ¬asserted → exec .turnReads s =
      .next (release (claims { s.rail with claim := .delay, slot := some n, delay := some length }))) ∧
    (s.rail.stuck = false → asserted → exec .turnReads s =
      .next (release (claims { s.rail with claim := .waiting, slot := some n }))) ∧
    (s.rail.stuck = true → Sound s [2] → exec .turnReads s =
      .next (release (firedClaim { s1 with rail := { s.rail with slot := some n } } r n rest turn true true)))

/-- The in-zone question of the shot in flight, on sound words (R65, R145): the boost is decided by the watch response, the
aim point and the zones; the lists and the odometry are untouched. -/
def Obligations.InZoneDecidesBoost : Prop :=
  ∀ (s s1 : State) (n : Slot) (p : Int) (sh : Shot),
    takeShot asZone s = some ((n, p), s1) → s.sched.shot = some sh → sh.slot = n → sh.firePos = p → sh.decision = none →
    s.gain.processing = none → s.gain.queue = [] → SoundSlot s n [0, 4] → Sound s [5] →
    SoundItems s zoneBase 4 s.conf.zones → Calm s →
    let aim := p + s.odo.ps + (slotAt s n).pa
    let yes := (slotAt s n).watchResponse = true ∧ ∃ z ∈ s.conf.zones, |aim - z.item.centre| ≤ (z.item.half : Int)
    ∃ b : Boost, exec .inZoneQuestion s =
        .next (release { s1 with sched := { s.sched with shot := some { sh with decision := some b } } }) ∧
      (yes → b = ⟨(stationAt s).watchBoost, true⟩) ∧ (¬yes → b = ⟨0, false⟩)

/-! The rail line. -/

/-- R42, whole: the length of the arbitration delay, where it starts, and that the urgent rank goes before every other. -/
def Obligations.ArbitrationDelayLength : Prop :=
  (∀ (strap : Fin 8) (n : Slot) (u : RailUnit), u.claim = .idle → u.stuck = false → u.drive = false → u.others = false →
    (takeClaim strap.val n u).1.delay = some (4 + 2 * (if u.deferral < 2 then strap.val + 8 else strap.val))) ∧
  (∀ (strap : Fin 8) (u : RailUnit), u.claim = .waiting →
    (takeRelease strap.val u).delay = some (4 + 2 * (if u.deferral < 2 then strap.val + 8 else strap.val))) ∧
  (∀ (a b : Fin 8) (j k : Nat), 2 ≤ j → k < 2 → arbitrationDelay a.val j < arbitrationDelay b.val k)

/-- The line events while the own drive is released. An assertion by another station (R39, R43, R46, R47): a claim in DELAY
is lost and deferred, the stuck timer starts unless STUCK is set. A release by the others (R41, R42, R47, R49): the timer
stops, STUCK clears, and a claim in WAITING starts its delay. Nothing else changes. -/
def Obligations.RailLineEvents : Prop :=
  ∀ s : State, s.rail.drive = false →
    let timer := if s.rail.stuck then s.rail.stuckTimer else some 0
    let length := 4 + 2 * (if s.rail.deferral < 2 then s.strap.val + 8 else s.strap.val)
    (s.rail.others = false → s.rail.claim = .delay → exec .railLineAssertion s =
      .next { s with rail := { s.rail with
        claim := .waiting, delay := none, deferral := min 15 (s.rail.deferral + 1), others := true, stuckTimer := timer } }) ∧
    (s.rail.others = false → s.rail.claim ≠ .delay → exec .railLineAssertion s =
      .next { s with rail := { s.rail with others := true, stuckTimer := timer } }) ∧
    (s.rail.others = true → s.rail.claim = .waiting → exec .railLineRelease s =
      .next { s with rail := { s.rail with
        claim := .delay, delay := some length, others := false, stuckTimer := none, stuck := false } }) ∧
    (s.rail.others = true → s.rail.claim ≠ .waiting → exec .railLineRelease s =
      .next { s with rail := { s.rail with others := false, stuckTimer := none, stuck := false } })

/-- A claim won at the expiry of its delay, a claim granted as STUCK is set, and the setting of STUCK with no claim in
WAITING (R24, R44, R45, R46, R47, R48): the claim slot fires. The access for the boost decision at the fire, and the reading of
the noise floor there, are the model's choice (logs 12 and 10). -/
def Obligations.GrantFiresClaimSlot : Prop :=
  (∀ (s : State) (r : Round) (n : Slot) (rest : List Slot) (turn : Turn),
    s.sched.round = some r → r.todo = n :: rest → s.sched.turn = some turn → s.rail.slot = some n → Sound s [2] → Calm s →
    (s.rail.claim = .delay → s.rail.drive = false → s.rail.others = false →
      exec .arbitrationDelayExpiry s = .next (arbitrate (firedClaim s r n rest turn false s.rail.stuck))) ∧
    (s.rail.claim = .waiting → s.rail.stuckTimer.isSome = true →
      exec .stuckTimerExpiry s = .next (arbitrate (firedClaim s r n rest turn true true)))) ∧
  ∀ s : State, s.rail.stuckTimer.isSome = true → s.rail.claim ≠ .waiting →
    exec .stuckTimerExpiry s = .next { s with rail := { s.rail with stuck := true, stuckTimer := none } }

/-! Shots. -/

/-- The completion of a shot (R25). The line is released when the shot held it, and read afresh (R39, R45, R47, R49). The walk goes
on (R22, R23): past store-damaged slots, each skipped STORE, to the next turn of the round in flight, to that of a pending round,
which then starts, or to IDLE. Of a void shot (R30) the record is discarded and no check is taken; with no round in flight or
pending nothing else changes. A shot that is not void: its transmit check acts on the port (R100), a settle shot settles its slot (R32), and its record, whole (R53,
R54, R55, R56), is taken for processing with the slot's flat-gain mark (R57, R62), waits in the record queue, or, when the queue
holds four, is not evaluated and acts on the OVERRUN gap of its slot with its fire position (R57, R103). The request of a record
taken arises together with that of the walk's turn. -/
def Obligations.CompletionDeliversRecord : Prop :=
  ∀ (s : State) (sh : Shot) (ok : Bool) (samples : List (Nat × Nat)), s.sched.shot = some sh →
    let released := if s.rail.claim = .holding then
      { s.rail with
        claim := Claim.idle, slot := none, delay := none, drive := false, stuck := s.rail.others && s.rail.stuck
        stuckTimer := if s.rail.others then (if s.rail.stuck then s.rail.stuckTimer else some 0) else none } else s.rail
    let port := sh.turn.txPort
    let count := if ok then 0 else s.coup.noTransmit[port] + 1
    let floor := match s.gain.listening with | some l => l.noiseFloor | none => 0
    let heard := peakList floor sh.turn.quiet samples
    let record : ShotRecord :=
      { slot := sh.slot, firePos := sh.firePos, settle := sh.settle, unclaimed := sh.unclaimed,
        autoZero := sh.turn.autoZero, transmitted := ok, peaks := heard.1, overflow := heard.2, decision := sh.decision }
    let unheard := { s.gain with listening := none }
    (sh.void = true → s.sched.round = none → s.sched.pendingRound = none →
      exec (.shotCompletion ok samples) s =
        .next (arbitrate { s with
          sched := { s.sched with shot := none, turn := none, walk := .idle }, gain := unheard, rail := released })) ∧
    ∃ t, exec (.shotCompletion ok samples) s = .next t ∧
      (let u := { s.sched with shot := none }
       let left := s.sched.round.map fun r => (r, r.todo)
       let taken := sh.void = false ∧ s.gain.processing = none
       let overrun := sh.void = false ∧ s.gain.processing.isSome = true ∧ 4 ≤ s.gain.queue.length
       walked u left t ∧ t.sched.shot = none ∧
       t.store.shotReqs = asked s.store.shotReqs
         (turnAsked (walkOutcome u left).1 ++ if taken then [.processing] else []) ∧
       ∀ n : Slot,
         (t.coup.gaps[n]).get .store = walkGap u left n ((s.coup.gaps[n]).get .store) ∧
         (t.coup.gaps[n]).get .overrun =
           gapAfter ((s.coup.gaps[n]).get .overrun) (n = sh.slot ∧ overrun) sh.firePos ∧
         (t.coup.gaps[n]).get .port = (s.coup.gaps[n]).get .port ∧
         (t.coup.gaps[n]).get .coupling = (s.coup.gaps[n]).get .coupling) ∧
      t.rail = released ∧ t.sched.storeDamaged = s.sched.storeDamaged ∧ t.sched.wedge = s.sched.wedge ∧
      t.sched.zeroFailed = s.sched.zeroFailed ∧ t.sched.request = s.sched.request ∧ t.sched.repTimer = s.sched.repTimer ∧
      t.coup.slots = s.coup.slots ∧ t.odo = s.odo ∧ t.trk = s.trk ∧ t.conf = s.conf ∧ t.rep = s.rep ∧ t.mark = s.mark ∧
      t.gates = s.gates ∧ t.store.cells = s.store.cells ∧ t.link.run = s.link.run ∧
      (sh.void = true → t.gain = unheard ∧ t.sched.settled = s.sched.settled ∧ t.coup.noTransmit = s.coup.noTransmit ∧
        t.coup.portFault = s.coup.portFault) ∧
      (sh.void = false →
        (s.gain.processing = none →
          t.gain = { unheard with processing := some record, takenFlat := decide (s.gain.flat[sh.slot] ≠ .clear) }) ∧
        (s.gain.processing.isSome = true → s.gain.queue.length < 4 →
          t.gain = { unheard with queue := s.gain.queue ++ [record] }) ∧
        (s.gain.processing.isSome = true → 4 ≤ s.gain.queue.length → t.gain = unheard) ∧
        (s.coup.portFault[port] = true → t.coup.noTransmit = s.coup.noTransmit ∧ t.coup.portFault = s.coup.portFault) ∧
        (s.coup.portFault[port] = false → t.coup.noTransmit[port] = min 3 count ∧
          t.coup.portFault[port] = decide (3 ≤ count)) ∧
        (∀ q : Port, q ≠ port → t.coup.noTransmit[q] = s.coup.noTransmit[q] ∧ t.coup.portFault[q] = s.coup.portFault[q]) ∧
        (∀ n : Slot, t.sched.settled[n] = (s.sched.settled[n] || (sh.settle && n == sh.slot))))

/-- The peak list of samples in tick order (R53, R54, R55), the noise floor at least 1: each excursion yields one peak, its
highest sample, the first of equal ones; the first eight in time order are kept, and the overflow flag tells that there were
more. A sample after the last tick heard, and a tick not listed, count as 0, and a sample above full scale as 4095. That the
tick at which the quiet time ends is heard is the model's choice (log 13). -/
def Obligations.PeakListHoldsExcursions : Prop :=
  ∀ (floor quiet : Nat) (samples : List (Nat × Nat)), risingTicks samples = true → 1 ≤ floor →
    let last := min (quiet * 100) 16383
    let heard := fun t : Nat => if t ≤ last then min 4095 ((samples.lookup t).getD 0) else 0
    ∃ all : List Peak, peakList floor quiet samples = (all.take 8, decide (8 < all.length)) ∧
      all.Pairwise (fun x y => x.time < y.time) ∧
      (∀ p ∈ all, floor ≤ p.raw ∧ p.raw ≤ 4095 ∧ p.time ≤ 16383) ∧
      ∀ p : Peak, p ∈ all ↔ ∃ a b, a ≤ p.time ∧ p.time ≤ b ∧ (∀ t, a ≤ t → t ≤ b → floor ≤ heard t) ∧
        (a = 0 ∨ heard (a - 1) < floor) ∧ heard (b + 1) < floor ∧ p.raw = heard p.time ∧
        (∀ t, a ≤ t → t ≤ b → heard t ≤ p.raw) ∧ ∀ t, a ≤ t → t < p.time → heard t < p.raw

/-- R64, whole: the increment of a segment is formed exactly, truncated toward zero, and added to the gain of the first
point; 0 on a level segment; with the rule's three examples. -/
def Obligations.SegmentGainTruncates : Prop :=
  (∀ (t0 t1 t : Nat) (g0 g1 : Int), t0 ≤ t → t < t1 →
    (g0 ≤ g1 → segmentGain (t0, g0) (t1, g1) t = g0 + ((g1 - g0).toNat * (t - t0) / (t1 - t0) : Nat)) ∧
    (g1 ≤ g0 → segmentGain (t0, g0) (t1, g1) t = g0 - ((g0 - g1).toNat * (t - t0) / (t1 - t0) : Nat)) ∧
    (g0 = g1 → segmentGain (t0, g0) (t1, g1) t = g0)) ∧
  segmentGain (1000, 0) (3000, 20) 2100 = 11 ∧ segmentGain (1000, 20) (3000, 0) 2100 = 9 ∧
    segmentGain (9000, 30) (10500, 24) 9800 = 27

/-- Whether all four piece-written flags of an area are set (R59). -/
def written (s : State) (a : Area) : Bool := decide (∀ p : Piece, (s.gain.pieces[a])[p] = true)

/-- The curve gain (R63): that of the first point up to it, that of the last from it on, that of a point at its time, and in
between that of the segment which holds the time (R64), and 0 without points (R62). The curve of a shot (R59, R62, R70): none with
the flag under the mark as taken, none without it for area NONE; of an area with all four piece-written flags set the sixteen points
on sound words, and none with the flag where a point's word has two changed bits; of any other area none, and nothing is read, where
that the shot carries the flag, though its mark as taken is clear, is the model's choice (log 44). The gained amplitude (R66, R67, R68): total gain clamped to 0 to 120 with its flag, the octave and the table step, the product formed in full,
amplitude 1000 with the saturated flag from 1000 on. -/
def Obligations.GainedPeakRule : Prop :=
  (∀ (pts : List (Nat × Int)) (time : Nat), pts.Pairwise (fun x y => x.1 < y.1) →
    (∀ p rest, pts = p :: rest → time ≤ p.1 → curveGain pts time = p.2) ∧
    (∀ before p, pts = before ++ [p] → p.1 ≤ time → curveGain pts time = p.2) ∧
    (∀ p ∈ pts, curveGain pts p.1 = p.2) ∧
    ∀ before p q after, pts = before ++ p :: q :: after → p.1 ≤ time → time < q.1 →
      curveGain pts time = segmentGain p q time) ∧
  (∀ time : Nat, curveGain [] time = 0) ∧
  (∀ (s : State) (area : Option Area),
    shotCurve true area s = (s, [], true) ∧ shotCurve false none s = (s, [], false) ∧
    ∀ a : Area, area = some a →
      (written s a = false → shotCurve false area s = (s, [], true)) ∧
      (written s a = true → Sound s ((List.range 16).map (pointAddr a)) →
        shotCurve false area s = (s, curveAt s a, false)) ∧
      ∀ p < 16, written s a = true → bitCount 39 (s.word (pointAddr a p)).changed = 2 →
        Sound s ((List.range p).map (pointAddr a)) → ∃ t, shotCurve false area s = (t, [], true)) ∧
  ∀ (base boost : Nat) (flat watch : Bool) (curve : Nat → Int) (p : Peak),
    let g := gainPeak base boost flat watch curve p
    let sum := (base : Int) + curve p.time + boost
    let table := [1024, 1085, 1149, 1217, 1289, 1366, 1446, 1532, 1623, 1719, 1821, 1929]
    let exact := p.raw * table.getD (g.totalGain % 12) 0 * 2 ^ (g.totalGain / 12) / 262144
    g.time = p.time ∧ g.raw = p.raw ∧ (g.totalGain : Int) = max 0 (min 120 sum) ∧
      (g.gainClamped = true ↔ (g.totalGain : Int) ≠ sum) ∧ (g.saturated = true ↔ 1000 ≤ exact) ∧
      g.amp = (if 1000 ≤ exact then 1000 else exact) ∧ g.flatGain = flat ∧ g.watch = watch

/-- The one-way sound path, depth and offset, with their ranges and where the upper ends are reached (R86, R87). -/
def Obligations.SoundPathDepthAndOffset : Prop :=
  (∀ delta v : Nat, soundPath delta v * 200 ≤ delta * v ∧ delta * v < (soundPath delta v + 1) * 200) ∧
  (∀ delta v : Nat, delta ≤ 16383 → v ≤ 7000 → soundPath delta v ≤ 573405) ∧ soundPath 16383 7000 = 573405 ∧
  (∀ s f : Nat, depthOf s f = (s * f / 4096 + 50) / 100 ∧ offsetOf s f = (s * f / 4096 + 62) / 125) ∧
  (∀ s f : Nat, f ≤ 4096 → s * f / 4096 ≤ s) ∧
  (∀ s f : Nat, s ≤ 573405 → f ≤ 4096 → depthOf s f ≤ 5734 ∧ offsetOf s f ≤ 4587) ∧
  depthOf 573405 4096 = 5734 ∧ offsetOf 573405 4096 = 4587 ∧ ∀ s, depthOf s 0 = 0 ∧ offsetOf s 0 = 0

/-- The hits of a shot (R83 to R89): FOUND and LOSS form exactly one hit and every other status none, gate A's before gate B's.
A REFLECTOR stands at the index point moved by the offset in the look direction, with its time and depth, a BACKWALL LOSS at the
index point, each clamped to the position range. Its six flags: saturated and gain-clamped as the peak at the result's place has
them, the shot's flat gain and watch, the wedge clamp of a REFLECTOR, the position limit. -/
def Obligations.HitsAreLocated : Prop :=
  (∀ (l : Located) (peaks : List GainedPeak) (r : GateResults),
    hitsOf l peaks r = hitOf l .a peaks r.a ++ hitOf l .b peaks r.b) ∧
  ∀ (l : Located) (peaks : List GainedPeak) (g : Gate) (r : GateResult),
    (r.status ≠ .found → r.status ≠ .loss → hitOf l g peaks r = []) ∧
    ((r.status = .found ∨ r.status = .loss) →
      let path := (r.time.getD 0 - l.wedge) * l.record.velocity / 200
      let off := (path * l.record.offsetFactor / 4096 + 62) / 125
      let exact := match r.status, l.record.look with
        | .found, .plus => l.indexPoint + off
        | .found, .minus => l.indexPoint - off
        | _, _ => l.indexPoint
      let peak := fun f : GainedPeak → Bool => ∃ k p, r.place = some k ∧ peaks[k - 1]? = some p ∧ f p = true
      ∃ h, hitOf l g peaks r = [h] ∧
        h.slot = l.slot ∧ h.gate = g ∧ h.amp = r.amp.getD 0 ∧ h.pos = max (-2147483647) (min 2147483647 exact) ∧
        (h.flags.posLimit = true ↔ h.pos ≠ exact) ∧ h.flags.flatGain = l.flatGain ∧ h.flags.watch = l.watch ∧
        (h.flags.saturated = true ↔ peak (·.saturated)) ∧ (h.flags.gainClamped = true ↔ peak (·.gainClamped)) ∧
        (r.status = .found → h.kind = .reflector ∧ h.time = some (r.time.getD 0) ∧
          h.depth = some ((path * l.record.depthFactor / 4096 + 50) / 100) ∧
          (h.flags.wedgeClamp = true ↔ r.time.getD 0 < l.wedge)) ∧
        (r.status = .loss → h.kind = .backwallLoss ∧ h.time = none ∧ h.depth = none ∧ h.flags.wedgeClamp = false))

/-- The gates on their windows (R75, R76, R79, R80, R81): FIRST takes the first peak that reaches the threshold, PEAK the
highest such peak, the earliest on ties; ABSENCE judges the highest peak of the window, PRESENT when it reaches the threshold,
LOSS when it does not, LOSS with amplitude 0 when there is none. -/
def gateModes : Prop :=
  ∀ (threshold : Nat) (w : Nat × Nat) (peaks : List (Nat × GainedPeak)),
    let inside := fun x : Nat × GainedPeak => w.1 ≤ x.2.time ∧ x.2.time ≤ w.2
    let candidate := fun x : Nat × GainedPeak => inside x ∧ threshold ≤ x.2.amp
    let takes := fun (r : GateResult) (st : GateStatus) (x : Nat × GainedPeak) =>
      r = { status := st, window := some w, time := some x.2.time, amp := some x.2.amp, place := some x.1 }
    let empty : GateResult := { status := .notFound, window := some w, time := none, amp := none, place := none }
    ((∀ x ∈ peaks, ¬candidate x) → gateOn .first threshold w peaks = empty ∧ gateOn .peak threshold w peaks = empty) ∧
    (∀ before x after, peaks = before ++ x :: after → candidate x → (∀ y ∈ before, ¬candidate y) →
      takes (gateOn .first threshold w peaks) .found x) ∧
    (∀ before x after, peaks = before ++ x :: after → candidate x → (∀ y ∈ before, candidate y → y.2.amp < x.2.amp) →
      (∀ y ∈ after, candidate y → y.2.amp ≤ x.2.amp) → takes (gateOn .peak threshold w peaks) .found x) ∧
    ((∀ x ∈ peaks, ¬inside x) → gateOn .absence threshold w peaks =
      { status := .loss, window := some w, time := none, amp := some 0, place := none }) ∧
    ∀ before x after, peaks = before ++ x :: after → inside x → (∀ y ∈ before, inside y → y.2.amp < x.2.amp) →
      (∀ y ∈ after, inside y → y.2.amp ≤ x.2.amp) →
      takes (gateOn .absence threshold w peaks) (if threshold ≤ x.2.amp then .present else .loss) x

/-- What the gates of a shot give (R71, R73 to R82): each gate by its mode on its window, with the peaks counted from 1. Gate I
looks on its own window; with interface sync the windows of A and B are shifted by the time of gate I's peak, each end limited to
16383; a shot on which gate I finds nothing then has no interface, and A and B are NOT EVALUATED, with no window (log 29); a gate
not enabled or set off is DISABLED. -/
def Obligations.GatesTakeTheirPeaks : Prop :=
  gateModes ∧
  (∀ peaks : List GainedPeak, (placed peaks).map (·.2) = peaks ∧
    ∀ k p, (k, p) ∈ placed peaks → 1 ≤ k ∧ peaks[k - 1]? = some p) ∧
  ∀ (r : SlotRecord) (offI offA offB syncOff : Bool) (peaks : List GainedPeak),
    let g := evaluateGates r offI offA offB syncOff peaks
    let no := fun st : GateStatus => ({ status := st, window := none, time := none, amp := none, place := none } : GateResult)
    let sync := r.interfaceSync = true ∧ syncOff = false
    ((r.gateI.enable = false ∨ offI = true) → g.i = no .disabled) ∧
    (r.gateI.enable = true → offI = false →
      g.i = gateOn .first r.gateI.threshold (r.gateI.start, r.gateI.stop) (placed peaks)) ∧
    (g.noInterface = true ↔ sync ∧ g.i.status = .notFound) ∧
    ∀ x ∈ [(r.gateA, offA, g.a), (r.gateB, offB, g.b)],
      ((x.1.enable = false ∨ x.2.1 = true) → x.2.2 = no .disabled) ∧
      (x.1.enable = true → x.2.1 = false → g.noInterface = true → x.2.2 = no .notEvaluated) ∧
      (x.1.enable = true → x.2.1 = false → g.noInterface = false →
        (∀ time, sync → g.i.time = some time → x.2.2 = gateOn x.1.mode x.1.threshold
          (min 16383 (x.1.start + time), min 16383 (x.1.stop + time)) (placed peaks)) ∧
        (¬(sync ∧ g.i.time.isSome = true) →
          x.2.2 = gateOn x.1.mode x.1.threshold (x.1.start, x.1.stop) (placed peaks)))

/-- Whether a shot of the slot in processing carries the flat-gain flag (R59, R62): by its mark as taken, and, by the model's choice
(log 44), where the area that its slot names is not complete. -/
def flatOf (s : State) (n : Slot) : Bool :=
  s.gain.takenFlat || match (slotAt s n).area with | some a => !written s a | none => false

/-- The curve that the processing of a slot's shot uses (R59, R62, R63, R70): none with the flag or for area NONE, else that of
its area. -/
def curveOf (s : State) (n : Slot) : List (Nat × Int) :=
  if flatOf s n then [] else match (slotAt s n).area with | some a => curveAt s a | none => []

/-- The words of that curve, where it is read, stand as last written. -/
def SoundCurve (s : State) (n : Slot) : Prop :=
  flatOf s n = false → ∀ a, (slotAt s n).area = some a → Sound s ((List.range 16).map (pointAddr a))

/-- The gate results of a shot in processing (R57, R63, R71): the peaks gained by its slot's curve, or without one. -/
def resultsOf (s : State) (rec : ShotRecord) : GateResults :=
  let n := rec.slot
  evaluateGates (slotAt s n) s.gates.offI[n] s.gates.offA[n] s.gates.offB[n] s.gates.syncOff[n]
    (gainPeaks rec (slotAt s n).baseGain (curveOf s n) (flatOf s n))

/-- The processing of a shot that is not tracked, with its curve or without one, on sound words (R57, R59, R62, R63, R70, R98, R108):
the tracker, the lists, the queues and the gaps are untouched, a held request for its slot is answered (R37), and the next record is
taken with its flat-gain mark. A settle shot (R32, R33, R94): the coupling is untouched, and gate I's result is taken by auto-zero. A
shot whose pulse did not leave, in a slot COUPLED with a loss run of 2 or more (R93, R95): the slot goes to DOUBTFUL with the doubt
position. That a shot whose mark as taken is clear, and whose slot names an area that is not complete, takes curve gain 0 with the
flat-gain flag is the model's choice (log 44). The slot is not store-damaged. -/
def Obligations.UntrackedShotsAreProcessed : Prop :=
  ∀ (s s1 : State) (rec : ShotRecord), takeShot asProcessing s = some ((), s1) → s.gain.processing = some rec →
    SoundSlot s rec.slot (List.range 10) → SoundCurve s rec.slot → Sound s [0] → Calm s →
    s.sched.storeDamaged[rec.slot] = false →
    let n := rec.slot
    let results := resultsOf s rec
    let fails := rec.settle = false ∧ rec.transmitted = false ∧ s.coup.slots[n].state = .coupled ∧ 2 ≤ (slotAt s n).lossRun
    (rec.settle = true ∨ fails) →
    ∃ t, exec .shotProcessing s = .next t ∧
      t.gain.processing = s.gain.queue.head? ∧ t.gain.queue = s.gain.queue.tail ∧
      (∀ q ∈ s.gain.queue.head?, t.gain.takenFlat = decide (s.gain.flat[q.slot] ≠ .clear)) ∧
      t.store.shotReqs = asked s1.store.shotReqs (s.gain.queue.head?.toList.map fun _ => .processing) ∧
      t.coup.gaps = s.coup.gaps ∧ t.trk = s.trk ∧ t.conf = s.conf ∧ t.rep = s.rep ∧ t.mark = s.mark ∧ t.odo = s.odo ∧
      t.store.cells = s.store.cells ∧ t.link.gapList = s.link.gapList ∧
      (s.sched.request = some n → t.sched.request = none ∧ t.link.shotBuf = some { record := rec, results := results }) ∧
      (s.sched.request ≠ some n → t.sched.request = s.sched.request ∧ t.link.shotBuf = s.link.shotBuf) ∧
      (fails → t.sched.wedge = s.sched.wedge ∧ t.sched.zeroFailed = s.sched.zeroFailed ∧
        t.coup.slots[n] = { s.coup.slots[n] with state := .doubtful, failRun := 1, doubt := some rec.firePos } ∧
        ∀ m : Slot, m ≠ n → t.coup.slots[m] = s.coup.slots[m]) ∧
      (rec.settle = true → t.coup = s.coup ∧
        (rec.autoZero = false → t.sched.wedge = s.sched.wedge ∧ t.sched.zeroFailed = s.sched.zeroFailed) ∧
        (rec.autoZero = true → results.i.time = none →
          t.sched.wedge = s.sched.wedge ∧ t.sched.zeroFailed[n] = true) ∧
        (∀ time, rec.autoZero = true → results.i.time = some time →
          t.sched.wedge[n] = min 4095 time ∧
          t.sched.zeroFailed[n] = (s.sched.zeroFailed[n] || decide (4095 < time))))

/-- What a processing that has ended without its coupling test leaves (R98, R169): the next record is taken, and coupling, gaps, the
tracker, lists, queues and the answer to a request stand. -/
def endedUntested (s t : State) : Prop :=
  t.coup = s.coup ∧ t.trk = s.trk ∧ t.conf = s.conf ∧ t.rep = s.rep ∧ t.mark = s.mark ∧ t.odo = s.odo ∧ t.rail = s.rail ∧
  t.gates = s.gates ∧ t.store.cells = s.store.cells ∧ t.link.gapList = s.link.gapList ∧ t.link.shotBuf = s.link.shotBuf ∧
  t.link.fifo = s.link.fifo ∧ t.link.run = s.link.run ∧ t.gain.processing = s.gain.queue.head? ∧
  t.gain.queue = s.gain.queue.tail ∧ t.gain.flat = s.gain.flat ∧ t.gain.pieces = s.gain.pieces

/-- Damage in a slot record ends work on it (R35, R102, R167, R169). A shot's processing that reads a word of its slot's record with
two changed bits ends there: the slot becomes store-damaged, the error is counted, the next record is taken, and nothing else
changes, neither coupling, gaps, tracker, lists, queues, wedge delay, zero-failed mark nor a held request (R98). The processing of a
shot whose slot is store-damaged already ends likewise on sound words, so it closes no STORE gap. A closure that reads the damage in
the slot's thresholds discards the entry (R133): its index is FREE and it makes no output. The model's own choices are that the
reads of an item end at the first double error (log 8), and that the shot of a slot marked before ends after its own reads and
before its test (log 48). -/
def Obligations.SlotDamageEndsWork : Prop :=
  (∀ (s s1 : State) (rec : ShotRecord) (k : Nat), takeShot asProcessing s = some ((), s1) → s.gain.processing = some rec →
    k < 10 → bitCount 39 (s.word (slotBase rec.slot + k)).changed = 2 → SoundSlot s rec.slot (List.range k) →
    SoundCurve s rec.slot → Calm s →
    ∃ t marks, exec .shotProcessing s = .next t ∧ t.sched = { s.sched with storeDamaged := marks } ∧
      (∀ m : Slot, marks[m] = (s.sched.storeDamaged[m] || m == rec.slot)) ∧
      t.link.counts = { s.link.counts with storeUncorrectable := min 255 (s.link.counts.storeUncorrectable + 1) } ∧
      endedUntested s t) ∧
  (∀ (s s1 : State) (rec : ShotRecord), takeShot asProcessing s = some ((), s1) → s.gain.processing = some rec →
    s.sched.storeDamaged[rec.slot] = true → SoundSlot s rec.slot (List.range 10) → SoundCurve s rec.slot → Calm s →
    ∃ t, exec .shotProcessing s = .next t ∧ t.sched = s.sched ∧ t.link.counts = s.link.counts ∧ endedUntested s t) ∧
  ∀ (s : State) (cause : ClosureCause) (i : Fin 32) (e : Entry), s.trk.entries[i] = some e → Sound s [4] →
    SoundItems s confBase 4 s.conf.list →
    (let word := fun k => s.word (slotBase e.slot + k)
     bitCount 39 (word 10).changed = 2 ∨ ((word 10).changed = 0 ∧ bitCount 39 (word 11).changed = 2)) →
    ∃ marks entries,
      closeEntry cause i s = { s with
        sched := { s.sched with storeDamaged := marks }
        link := { s.link with counts :=
          { s.link.counts with storeUncorrectable := min 255 (s.link.counts.storeUncorrectable + 1) } }
        trk := { s.trk with entries := entries, order := s.trk.order.filter fun j => !(j == i) } } ∧
      (∀ m : Slot, marks[m] = (s.sched.storeDamaged[m] || m == e.slot)) ∧
      entries[i] = none ∧ ∀ j : Fin 32, j ≠ i → entries[j] = s.trk.entries[j]

/-- The coupling test and state of a shot (R93 to R98, R103 to R106). The test needs the pulse, an interface, and the source's
amplitude at the threshold. A settle shot changes nothing. Of any other shot, the twelve rows of the state table; the COUPLING gap
opens at entry to LOST from the doubt position, which is then discarded, and extends at each test that ends in LOST or RECOVERING;
the slot's open entries close at entry to LOST; a valid shot, which is the observed one, closes every gap of its slot. The verdict
holds the test result, the state after the shot and the observed mark. The station record's words are sound, and the slot is not
store-damaged: a shot of a slot that is does not reach the test (R102). -/
def Obligations.CouplingTable : Prop :=
  (∀ (src : CouplingSource) (threshold : Nat) (ok : Bool) (g : GateResults),
    couplingPass src threshold ok g = true ↔ ok = true ∧ g.noInterface = false ∧
      (src = .interface → ∃ a, g.i.amp = some a ∧ threshold ≤ a) ∧ (src = .gateB → ∃ a, g.b.amp = some a ∧ threshold ≤ a)) ∧
  ∀ (s : State) (shot : ShotRecord) (r : SlotRecord) (g : GateResults), Calm s → Sound s (List.range 8) →
    s.sched.storeDamaged[shot.slot] = false →
    let n := shot.slot
    let c := s.coup.slots[n]
    let pass := couplingPass c.source r.couplingThreshold shot.transmitted g
    let t := (coupleShot shot r g s).1
    let v := (coupleShot shot r g s).2
    let after := t.coup.slots[n]
    let gap := (t.coup.gaps[n]).get .coupling
    let extended := gap = gapAfter ((s.coup.gaps[n]).get .coupling) True shot.firePos
    let enters := pass = false ∧ ((c.state = .coupled ∧ r.lossRun ≤ 1) ∨ (c.state = .doubtful ∧ r.lossRun ≤ c.failRun + 1))
    v.pass = pass ∧ v.state = after.state ∧ (v.observed = true ↔ pass = true ∧ after.state = .coupled) ∧
    (shot.settle = true → t = s) ∧
    (∀ m : Slot, m ≠ n → t.coup.slots[m] = s.coup.slots[m] ∧ t.coup.gaps[m] = s.coup.gaps[m]) ∧
    t.coup.noTransmit = s.coup.noTransmit ∧ t.coup.portFault = s.coup.portFault ∧ t.odo = s.odo ∧ t.sched.shot = s.sched.shot ∧
    (¬enters → t.trk = s.trk ∧ t.rep = s.rep ∧ t.conf = s.conf ∧ t.mark = s.mark ∧ t.store = s.store) ∧
    (shot.settle = false →
      (enters → after = { c with state := .lost, failRun := if c.state = .doubtful then 0 else c.failRun, doubt := none } ∧
        gap = some { fromPos := (((s.coup.gaps[n]).get .coupling).map (·.fromPos)).getD (c.doubt.getD shot.firePos),
                     toPos := shot.firePos } ∧
        (∀ (i : Fin 32) (e : Entry), s.trk.entries[i] = some e →
          (e.slot = n → t.trk.entries[i] = none) ∧ (e.slot ≠ n → t.trk.entries[i] = some e))) ∧
      (pass = true → c.state = .coupled → after = c) ∧
      (pass = false → c.state = .coupled → 2 ≤ r.lossRun →
        after = { c with state := .doubtful, failRun := 1, doubt := some shot.firePos }) ∧
      (pass = true → c.state = .doubtful → after = { c with state := .coupled, failRun := 0, doubt := none }) ∧
      (pass = false → c.state = .doubtful → c.failRun + 1 < r.lossRun → after = { c with failRun := c.failRun + 1 }) ∧
      (pass = true → c.state = .lost → r.recoveryRun ≤ 1 → after = { c with state := .coupled }) ∧
      (pass = true → c.state = .lost → 2 ≤ r.recoveryRun → after = { c with state := .recovering, passRun := 1 } ∧ extended) ∧
      (pass = false → c.state = .lost → after = c ∧ extended) ∧
      (pass = true → c.state = .recovering → r.recoveryRun ≤ c.passRun + 1 →
        after = { c with state := .coupled, passRun := 0 }) ∧
      (pass = true → c.state = .recovering → c.passRun + 1 < r.recoveryRun →
        after = { c with passRun := c.passRun + 1 } ∧ extended) ∧
      (pass = false → c.state = .recovering → after = { c with state := .lost, passRun := 0 } ∧ extended) ∧
      (v.observed = true → ∀ k, (t.coup.gaps[n]).get k = none) ∧
      (v.observed = false → ∀ k, k ≠ .coupling → (t.coup.gaps[n]).get k = (s.coup.gaps[n]).get k) ∧
      (v.observed = false → (after.state = .coupled ∨ after.state = .doubtful) →
        gap = (s.coup.gaps[n]).get .coupling))

/-- The gap list and the untold marks (R106, R188). A gap that opens or extends is handed over open, one that closes is handed
over closed, each with the positions it then has. The open record of the same slot and cause is updated in place; else the record
joins a list of fewer than eight and its untold mark clears; else the mark is set and counted once while it stands, and a record
that closes the gap clears it. -/
def Obligations.GapListHandOver : Prop :=
  (∀ (s : State) (r : GapRecord),
    let t := handOver r s
    let mine := fun g : GapRecord => g.isOpen = true ∧ g.slot = r.slot ∧ g.cause = r.cause
    let mark := (s.link.untold[r.slot]).get r.cause
    let told := fun (u : State) (b : Bool) => (u.link.untold[r.slot]).get r.cause = b ∧
      ∀ (n : Slot) (c : GapCause), ¬(n = r.slot ∧ c = r.cause) → (u.link.untold[n]).get c = (s.link.untold[n]).get c
    t.coup = s.coup ∧ t.sched = s.sched ∧ t.store = s.store ∧ t.trk = s.trk ∧
    (∀ before g after, s.link.gapList = before ++ g :: after → mine g → (∀ h ∈ before, ¬mine h) →
      t.link = { s.link with gapList := before ++ { g with toPos := r.toPos, isOpen := r.isOpen } :: after }) ∧
    ((∀ h ∈ s.link.gapList, ¬mine h) → s.link.gapList.length < 8 →
      t.link.gapList = s.link.gapList ++ [r] ∧ told t false ∧ t.link.counts = s.link.counts) ∧
    ((∀ h ∈ s.link.gapList, ¬mine h) → 8 ≤ s.link.gapList.length →
      t.link.gapList = s.link.gapList ∧ told t r.isOpen ∧
      t.link.counts = { s.link.counts with untoldGaps :=
        if mark = true then s.link.counts.untoldGaps else min 255 (s.link.counts.untoldGaps + 1) })) ∧
  ∀ (s : State) (n : Slot) (c : GapCause) (start pos : Int),
    let old := (s.coup.gaps[n]).get c
    let from_ := (old.map (·.fromPos)).getD start
    let t := touchGap n c start pos s
    let u := closeGap n c s
    (t.link = (handOver ⟨n, c, from_, pos, true⟩ s).link ∧ (t.coup.gaps[n]).get c = some ⟨from_, pos⟩) ∧
    (old = none → u = s) ∧
    (∀ g, old = some g → u.link = (handOver ⟨n, c, g.fromPos, g.toPos, false⟩ s).link ∧ (u.coup.gaps[n]).get c = none) ∧
    ∀ (m : Slot) (k : GapCause), ¬(m = n ∧ k = c) →
      (t.coup.gaps[m]).get k = (s.coup.gaps[m]).get k ∧ (u.coup.gaps[m]).get k = (s.coup.gaps[m]).get k

/-! The tracker. -/

/-- What R113 says of every entry: one hit or more, the peak inside lo to hi, the span within max span, and the depths of a
REFLECTOR in order. -/
def SoundEntry (maxSpan : Nat) (e : Entry) : Prop :=
  1 ≤ e.hits ∧ e.lo ≤ e.peakPos ∧ e.peakPos ≤ e.hi ∧ e.hi - e.lo ≤ (maxSpan : Int) ∧
    ∀ a b, e.depths = some (a, b) → a ≤ b

/-- An opening gives a sound entry, a hit that does not stretch it beyond max span keeps it sound (R112, R113, R114), and the
number an opening takes is one that none of those in use carries, and never 0 (R115). -/
def Obligations.EntriesStaySound : Prop :=
  (∀ (used : List Nat) (n : Nat), used.length ≤ 48 → 1 ≤ n → n ≤ 65535 →
    freeNumber used 49 n ∉ used ∧ 1 ≤ freeNumber used 49 n ∧ freeNumber used 49 n ≤ 65535) ∧
  (∀ (number maxSpan : Nat) (h : Hit), SoundEntry maxSpan (openedBy number h)) ∧
  (∀ (maxSpan : Nat) (h : Hit) (e : Entry), SoundEntry maxSpan e → spanWith e h ≤ (maxSpan : Int) →
    SoundEntry maxSpan (takeInto h e) ∧ (takeInto h e).number = e.number ∧ (takeInto h e).slot = e.slot ∧
      (takeInto h e).gate = e.gate ∧ (takeInto h e).kind = e.kind ∧ (takeInto h e).missRun = 0 ∧
      (takeInto h e).last = h.pos ∧ (takeInto h e).hits = min 65535 (e.hits + 1) ∧
      (takeInto h e).peakAmp = max e.peakAmp h.amp)

/-- Whether a hit matches an open entry (R110): its slot and gate, within the window of the last position, and within the
tolerance of the depth range where both have depths. -/
def hitMatches (st : StationRecord) (h : Hit) (e : Entry) : Prop :=
  e.slot = h.slot ∧ e.gate = h.gate ∧ |h.pos - e.last| ≤ (st.window : Int) ∧
    ∀ d lo hi, h.depth = some d → e.depths = some (lo, hi) → lo ≤ d + st.depthTol ∧ d ≤ hi + st.depthTol

/-- What an opening makes of the table (R114, R115): the index holds the hit under a number that no open entry, waiting record
or locked record carries, it is last in the opening order, and every other index stands. -/
def opensAt (i : Fin 32) (h : Hit) (s t : State) : Prop :=
  ∃ number, t.trk.entries[i] = some
      { number := number, slot := h.slot, gate := h.gate, kind := h.kind, lo := h.pos, hi := h.pos, peakAmp := h.amp,
        peakPos := h.pos, depths := h.depth.map fun d => (d, d), hits := 1, missRun := 0, last := h.pos, flags := h.flags } ∧
    1 ≤ number ∧ number ≤ 65535 ∧
    (∀ (j : Fin 32) (e : Entry), s.trk.entries[j] = some e → e.number ≠ number) ∧
    (∀ x ∈ (if s.rep.locked.isSome then s.rep.records.tail else s.rep.records), x.item.number ≠ number) ∧
    s.rep.locked ≠ some number ∧ t.trk.next = (if number = 65535 then 1 else number + 1) ∧
    t.trk.order = s.trk.order ++ [i] ∧ ∀ j : Fin 32, j ≠ i → t.trk.entries[j] = s.trk.entries[j]

/-- A hit offered to the table, on sound words (R110 to R117). It is taken into the nearest matching entry, the lowest index on
ties, unless the entry would grow beyond max span: then that entry closes and the hit opens at the lowest FREE index. A hit
without a match opens at the lowest FREE index; at a full table it evicts the entry of the lowest peak, the one opened last on
ties, when its own amplitude is higher, and is dropped and counted otherwise. -/
def Obligations.HitIsOffered : Prop :=
  ∀ (st : StationRecord) (h : Hit) (s : State), MemoryForm s → (∀ a, (s.word a).changed = 0) → Calm s → OrderListsOpen s →
    s.rep.records.length ≤ 16 → 1 ≤ s.trk.next → s.trk.next ≤ 65535 →
    let q := offerHit st h s
    let free := fun (u : State) (i : Fin 32) => u.trk.entries[i] = none ∧ ∀ j : Fin 32, j < i → u.trk.entries[j].isSome = true
    let nearest := fun (i : Fin 32) (e : Entry) => s.trk.entries[i] = some e ∧ hitMatches st h e ∧
      ∀ (j : Fin 32) (e' : Entry), s.trk.entries[j] = some e' → hitMatches st h e' →
        |h.pos - e.last| < |h.pos - e'.last| ∨ (|h.pos - e.last| = |h.pos - e'.last| ∧ i ≤ j)
    let unmatched := ∀ (j : Fin 32) (e' : Entry), s.trk.entries[j] = some e' → ¬hitMatches st h e'
    q.1.odo = s.odo ∧ q.1.coup = s.coup ∧ q.1.link.run = s.link.run ∧ Calm q.1 ∧
    (∀ i e, nearest i e → max e.hi h.pos - min e.lo h.pos ≤ (st.maxSpan : Int) →
      q.2 = some i ∧ q.1.rep = s.rep ∧ q.1.conf = s.conf ∧ q.1.mark = s.mark ∧
      q.1.trk.order = s.trk.order ∧ q.1.trk.next = s.trk.next ∧
      q.1.trk.entries[i] = some
        { e with
          lo := min e.lo h.pos, hi := max e.hi h.pos, peakAmp := max e.peakAmp h.amp
          peakPos := if e.peakAmp < h.amp then h.pos else e.peakPos
          depths := match e.depths, h.depth with
            | some (lo, hi), some d => some (min lo d, max hi d)
            | old, _ => old
          hits := min 65535 (e.hits + 1), missRun := 0, last := h.pos, flags := e.flags.or h.flags } ∧
      ∀ j : Fin 32, j ≠ i → q.1.trk.entries[j] = s.trk.entries[j]) ∧
    (∀ i e, nearest i e → (st.maxSpan : Int) < max e.hi h.pos - min e.lo h.pos →
      ∃ u j, u = closeEntry .span i s ∧ u.trk.entries[i] = none ∧ (∀ k : Fin 32, k ≠ i → u.trk.entries[k] = s.trk.entries[k]) ∧
        free u j ∧ q.2 = some j ∧ opensAt j h u q.1) ∧
    (∀ i, unmatched → free s i → q.2 = some i ∧ opensAt i h s q.1 ∧ q.1.rep = s.rep ∧ q.1.conf = s.conf ∧ q.1.mark = s.mark) ∧
    (∀ before i after e, unmatched → (∀ j : Fin 32, s.trk.entries[j].isSome = true) → s.trk.order = before ++ i :: after →
      s.trk.entries[i] = some e →
      (∀ j ∈ before, ∀ e', s.trk.entries[j] = some e' → e.peakAmp ≤ e'.peakAmp) →
      (∀ j ∈ after, ∀ e', s.trk.entries[j] = some e' → e.peakAmp < e'.peakAmp) →
      (e.peakAmp < h.amp → ∃ u, u = closeEntry .evicted i s ∧ u.trk.entries[i] = none ∧ u.trk.order = before ++ after ∧
        (∀ k : Fin 32, k ≠ i → u.trk.entries[k] = s.trk.entries[k]) ∧ q.2 = some i ∧ opensAt i h u q.1) ∧
      (h.amp ≤ e.peakAmp → q.2 = none ∧ q.1 = { s with link := { s.link with counts :=
        { s.link.counts with trackerSaturation := min 255 (s.link.counts.trackerSaturation + 1) } } }))

/-- Hits offered one after the other, with the indices that have received one. -/
def offeredInOrder (st : StationRecord) : List Hit → State → State × List (Fin 32)
  | [], s => (s, [])
  | h :: rest, s =>
    let q := offerHit st h s
    let w := offeredInOrder st rest q.1
    (w.1, q.2.toList ++ w.2)

/-- The processing of a shot that passes its test in a slot COUPLED or DOUBTFUL, with its curve or without one, on sound words (R59,
R62, R63, R70, R90, R98, R105, R108, R109, R118, R119). In RUN under POSITION, with the slot's feed on, it is tracked: its hits are offered, gate A's
first; each entry of its slot that took none takes a miss and is freed when its miss run reaches close gap, and every other entry
stands as the offers left it. In any other case the table stands, and so it does while the station record is absent, whose words are
not read (R165, R172; log 50). The next record is taken. That a shot whose mark as taken is clear, and whose slot names an area that
is not complete, takes curve gain 0 with the flat-gain flag is the model's choice (log 44). The slot is not store-damaged. -/
def Obligations.TrackedShotUpdatesTable : Prop :=
  ∀ (s s1 : State) (shot : ShotRecord), takeShot asProcessing s = some ((), s1) → s.gain.processing = some shot →
    shot.settle = false → MemoryForm s → (∀ a, (s.word a).changed = 0) → Calm s →
    s.sched.storeDamaged[shot.slot] = false →
    let n := shot.slot
    let r := slotAt s n
    let boost := shot.decision.getD ⟨0, false⟩
    let peaks := gainPeaks shot r.baseGain (curveOf s n) (flatOf s n)
    let results := resultsOf s shot
    let place : Located :=
      { slot := n, record := r, wedge := s.sched.wedge[n], indexPoint := shot.firePos + s.odo.ps + r.pm,
        flatGain := flatOf s n, watch := boost.watch }
    let c := s.coup.slots[n]
    couplingPass c.source r.couplingThreshold shot.transmitted results = true → (c.state = .coupled ∨ c.state = .doubtful) →
    let tracked := s.link.present = true ∧ s.link.run = .run ∧ (stationAt s).trigger = .position ∧ r.feed = true
    ∃ t, exec .shotProcessing s = .next t ∧ t.gain.processing = s.gain.queue.head? ∧ t.gain.queue = s.gain.queue.tail ∧
      t.odo = s.odo ∧ t.link.run = s.link.run ∧ (∀ k, (t.coup.gaps[n]).get k = none) ∧ t.coup.slots[n].state = .coupled ∧
      (¬tracked → t.trk = s.trk ∧ t.rep = s.rep ∧ t.conf = s.conf ∧ t.mark = s.mark) ∧
      (tracked → ∃ u, u.trk = s.trk ∧ u.rep = s.rep ∧ u.conf = s.conf ∧ u.mark = s.mark ∧ u.odo = s.odo ∧
        u.store.cells = s.store.cells ∧ u.link.run = s.link.run ∧
        let q := offeredInOrder (stationAt s) (hitsOf place peaks results) u
        t.trk.next = q.1.trk.next ∧
        ∀ i : Fin 32,
          ((i ∈ q.2 ∨ ∀ e, q.1.trk.entries[i] = some e → e.slot ≠ n) → t.trk.entries[i] = q.1.trk.entries[i]) ∧
          ∀ e, i ∉ q.2 → q.1.trk.entries[i] = some e → e.slot = n →
            t.trk.entries[i] = if r.closeGap ≤ e.missRun + 1 then none else some { e with missRun := e.missRun + 1 })

/-- The confirming source of a closing entry (R125): an entry of the list confirms when it is not of this station and the closing
entry's slot together and lies within the tolerance of the peak position; the source is the nearest confirming entry's station and
indication number, the oldest among equals, and none when none confirms. The outcome and the class (R126, R127), for thresholds as
CLOSE SETUP leaves them. -/
def Obligations.EvaluationOutcome : Prop :=
  (∀ (station tc : Nat) (e : Entry) (l : List (Placed ConfEntry)),
    let away := fun x : Placed ConfEntry => |e.peakPos - x.item.pos|
    let confirming := fun x : Placed ConfEntry =>
      ¬(x.item.station = station ∧ x.item.slot = e.slot.val) ∧ away x ≤ (tc : Int)
    ((∀ x ∈ l, ¬confirming x) → confirmingSource station tc e l = none) ∧
    ∀ before x after, l = before ++ x :: after → confirming x → (∀ y ∈ before, confirming y → away x < away y) →
      (∀ y ∈ after, confirming y → away x ≤ away y) →
      confirmingSource station tc e l = some (x.item.station, x.item.number)) ∧
  ∀ (e : Entry) (r : SlotRecord) (confirmed : Bool), r.nwatch ≤ r.nrep → r.awatch ≤ r.arep →
    let watch := r.nwatch ≤ e.hits ∧ r.awatch ≤ e.peakAmp
    let report := r.nrep ≤ e.hits ∧ r.arep ≤ e.peakAmp
    (outcomeOf e r confirmed = .reportable ↔ (confirmed = true ∧ watch) ∨ (confirmed = false ∧ report)) ∧
    (outcomeOf e r confirmed = .weak ↔ confirmed = false ∧ watch ∧ ¬report) ∧
    (outcomeOf e r confirmed = .discarded ↔ ¬watch) ∧
    classOf e r.asev confirmed = if r.asev ≤ e.peakAmp then 3 else if confirmed then 2 else 1

/-- The three sweeps, whatever the table and the lists hold, with the station record sound (R120, R122, R123, R124): every
index is FREE afterwards, the opening order is empty, and the next number, the odometry, the run state and the setup
area's station record are kept. -/
def Obligations.SweepsEmptyTheTable : Prop :=
  ∀ (s s1 : State) (c : Instr) (cause : ClosureCause),
    (c, cause) ∈ [(Instr.reversalSweep, ClosureCause.reversal), (.haltSweep, .halt), (.endSweep, .runEnd)] →
    takeShot (asSweep cause) s = some ((), s1) → Sound s (List.range 8) → Calm s → OrderListsOpen s →
    ∃ t, exec c s = .next t ∧ (∀ i : Fin 32, t.trk.entries[i] = none) ∧ t.trk.order = [] ∧ t.trk.next = s.trk.next ∧
      t.odo = s.odo ∧ t.link.run = s.link.run ∧ t.coup = s.coup ∧ ∀ a < 8, t.word a = s.word a

/-- A mark offered by a closure (R158, R160): at the gun position it fires; within mark spacing of a held mark it merges; else
it joins as fresh, on the side where it lies, or is missed when eight are held. -/
def markOffered (pos : Int) (s t : State) : Prop :=
  let gun := s.odo.pc + s.mark.gunOffset
  let near := ∃ x ∈ s.mark.marks, |x.item.pos - pos| ≤ (s.mark.spacing : Int)
  let missed := min 255 (s.link.counts.markerMissed + 1)
  (pos = gun → t.mark = (match s.mark.mode with
    | .pulse => { s.mark with on := true, pulseTimer := some s.mark.pulse }
    | .level => { s.mark with on := true, reference := some pos })) ∧
  (pos ≠ gun → near → t.mark = s.mark ∧ t.link.counts.markerMissed = s.link.counts.markerMissed) ∧
  (pos ≠ gun → ¬near → s.mark.marks.length < 8 → ∃ place, t.mark = { s.mark with
    marks := s.mark.marks ++ [⟨place, { pos := pos, side := if gun < pos then .plus else .minus, fresh := true }⟩] }) ∧
  (pos ≠ gun → ¬near → 8 ≤ s.mark.marks.length → t.mark = s.mark ∧ t.link.counts.markerMissed = missed)

/-- A WATCH of a closure (R130, R180): it joins an outgoing FIFO of fewer than four, and is dropped and counted otherwise. -/
def watchQueued (e : Entry) (s t : State) : Prop :=
  (s.link.fifo.length < 4 → ∃ place, t.link.fifo = s.link.fifo ++ [⟨place,
    { railRight := (stationAt s).railRight, centre := e.peakPos, half := (stationAt s).watchHalf, origin := e.number,
      slot := e.slot.val }⟩]) ∧
  (4 ≤ s.link.fifo.length → t.link.fifo = s.link.fifo ∧
    t.link.counts.watchesDropped = min 255 (s.link.counts.watchesDropped + 1))

/-- The sweep of a table that holds one entry, on sound words, in any run state, with room for a report (R123, R125 to R132,
R136, R158, R180). A discarded entry makes nothing. A reportable one makes its record. With a cause other than END it also makes its
mark when its class reaches mark class, its WATCH when it is weak or of class 1, and its join to the station's own confirmation
list, REPORTED or WEAK. An END sweep makes no mark, no WATCH and no join for any table. That a HALT or REVERSAL sweep taken in READY
or SETUP makes the three too is the model's reading (log 17), since R149 and R159 take the lists and the queue to be empty there. -/
def Obligations.SweepMakesOutputs : Prop :=
  (∀ s s1 : State, takeShot (asSweep .runEnd) s = some ((), s1) → MemoryForm s → (∀ a, (s.word a).changed = 0) → Calm s →
    ∃ t, exec .endSweep s = .next t ∧ t.mark = s.mark ∧ t.link.fifo = s.link.fifo ∧ t.conf = s.conf ∧
      t.rep.locked = s.rep.locked) ∧
  ∀ (s s1 : State) (c : Instr) (cause : ClosureCause) (i : Fin 32) (e : Entry),
    (c, cause) ∈ [(Instr.reversalSweep, ClosureCause.reversal), (.haltSweep, .halt), (.endSweep, .runEnd)] →
    takeShot (asSweep cause) s = some ((), s1) → MemoryForm s → (∀ a, (s.word a).changed = 0) → Calm s →
    s.trk.entries[i] = some e → (∀ j : Fin 32, j ≠ i → s.trk.entries[j] = none) → s.rep.records.length < 16 →
    let r := slotAt s e.slot
    let source := confirmingSource s.strap.val (stationAt s).confirmTol e s.conf.list
    let outcome := outcomeOf e r source.isSome
    let cls := if r.asev ≤ e.peakAmp then 3 else if source.isSome then 2 else 1
    let joins := cause ≠ .runEnd
    let markClass := (stationAt s).markClass
    let marks := joins ∧ outcome = .reportable ∧ markClass ≠ 0 ∧ markClass ≤ cls
    let watches := joins ∧ (outcome = .weak ∨ (outcome = .reportable ∧ cls = 1))
    ∃ t, exec c s = .next t ∧ t.trk.entries[i] = none ∧ t.rep.locked = s.rep.locked ∧ t.odo = s.odo ∧ t.coup = s.coup ∧
      (outcome ≠ .reportable → t.rep = s.rep) ∧
      (outcome = .reportable → ∃ place, t.rep.records = s.rep.records ++ [⟨place,
        { station := s.strap.val, number := e.number, railRight := (stationAt s).railRight, slot := e.slot, gate := e.gate,
          kind := e.kind, lo := e.lo, hi := e.hi, peakPos := e.peakPos, peakAmp := e.peakAmp, depths := e.depths,
          hits := e.hits, cls := cls, cause := cause, flags := e.flags, source := source }⟩]) ∧
      (marks → markOffered e.peakPos s t) ∧ (¬marks → t.mark = s.mark) ∧
      (watches → watchQueued e s t) ∧ (¬watches → t.link.fifo = s.link.fifo) ∧
      ((joins ∧ outcome ≠ .discarded) → ∃ u : State, u.conf = s.conf ∧ u.odo = s.odo ∧ stationAt u = stationAt s ∧
        (∀ a, (u.word a).changed = 0) ∧ Calm u ∧
        t.conf = (confJoin true { station := s.strap.val, slot := e.slot.val, number := e.number, pos := e.peakPos,
                                  mark := if outcome = .reportable then .reported else .weak } u).conf) ∧
      (¬(joins ∧ outcome ≠ .discarded) → t.conf = s.conf)

/-! Confirmation, watch zones and reports. -/

/-- Whether an item at `p` stays at an expiry test (R143): Dir × (Pr − P) does not exceed the station span. -/
def stays (dir : Dir) (pr : Int) (sp : Nat) (p : Int) : Bool :=
  decide ((match dir with | .plus => pr - p | .minus => p - pr) ≤ (sp : Int))

/-- The expiry test and the joins of both lists, on sound words, each place held once (R135, R137, R138, R140 to R144). A test
removes the items beyond the station span and keeps the order of the others, and each join makes it for its list with Pc and Dir
as they stand. An arriving entry that is itself expired is not held; one of a source and number held already refreshes that
entry; another joins at the end, of a full list in place of the oldest WEAK entry or else of the head. An offered zone within the
station's half-width of a zone's centre widens the nearest such zone; another joins at the end, of a full list in place of the zone
farthest ahead when it lies less far ahead itself. That an expired zone's offer still makes the test (log 36), and that a test made
while the station record is absent reads nothing and leaves the lists (log 50), is the model's reading. -/
def Obligations.ListsExpireAndJoin : Prop :=
  (∀ (s s1 : State) (pc : Int) (dir : Dir), takeShot asExpiry s = some ((pc, dir), s1) →
    (s.link.present = false → exec .expiryTest s = .next (release s1)) ∧
    (s.link.present = true → Sound s [2] → SoundItems s confBase 4 s.conf.list → SoundItems s zoneBase 4 s.conf.zones → Calm s →
      let left := stays dir (pc + s.odo.ps) (stationAt s).span
      exec .expiryTest s = .next (release { s1 with conf :=
        { list := s.conf.list.filter fun x => left x.item.pos, zones := s.conf.zones.filter fun x => left x.item.centre } }))) ∧
  (∀ (s : State) (on : Bool) (e : ConfEntry), Sound s [2] → SoundItems s confBase 4 s.conf.list → Settled s → Calm s →
    (s.conf.list.map (·.place)).Nodup →
    let left := stays s.odo.dir (s.odo.pc + s.odo.ps) (stationAt s).span
    let kept := s.conf.list.filter fun x => left x.item.pos
    let same := fun x : Placed ConfEntry => x.item.station = e.station ∧ x.item.number = e.number
    let t := confJoin on e s
    t.conf.zones = s.conf.zones ∧ t.odo = s.odo ∧ t.trk = s.trk ∧ t.rep = s.rep ∧ t.mark = s.mark ∧ t.link = s.link ∧
    (left e.pos = false → t.conf.list = kept) ∧
    (left e.pos = true →
      (∀ before x after, kept = before ++ x :: after → same x → (∀ y ∈ before, ¬same y) →
        t.conf.list = before ++ { x with item := { x.item with
          pos := e.pos, slot := e.slot
          mark := if x.item.mark = .reported ∨ e.mark = .reported then .reported else .weak } } :: after) ∧
      ((∀ y ∈ kept, ¬same y) → kept.length < 24 → ∃ place, t.conf.list = kept ++ [⟨place, e⟩]) ∧
      (∀ before x after, (∀ y ∈ kept, ¬same y) → 24 ≤ kept.length → kept = before ++ x :: after →
        ((x.item.mark = .weak ∧ ∀ y ∈ before, y.item.mark ≠ .weak) ∨ (before = [] ∧ ∀ y ∈ kept, y.item.mark ≠ .weak)) →
        ∃ place, t.conf.list = before ++ after ++ [⟨place, e⟩]))) ∧
  ∀ (s : State) (z : Zone), Sound s [2, 4, 5] → SoundItems s zoneBase 4 s.conf.zones → Settled s → Calm s →
    (s.conf.zones.map (·.place)).Nodup →
    let pr := s.odo.pc + s.odo.ps
    let left := stays s.odo.dir pr (stationAt s).span
    let kept := s.conf.zones.filter fun x => left x.item.centre
    let far := fun x : Placed Zone => |x.item.centre - z.centre|
    let near := fun x : Placed Zone => far x ≤ ((stationAt s).watchHalf : Int)
    let ahead := fun c : Int => match s.odo.dir with | .plus => c - pr | .minus => pr - c
    let t := zoneOffer z s
    t.conf.list = s.conf.list ∧ t.odo = s.odo ∧ t.trk = s.trk ∧ t.rep = s.rep ∧ t.mark = s.mark ∧ t.link = s.link ∧
    (left z.centre = false → t.conf.zones = kept) ∧
    (left z.centre = true →
      (∀ before x after, kept = before ++ x :: after → near x → (∀ y ∈ before, near y → far x < far y) →
        (∀ y ∈ after, near y → far x ≤ far y) →
        t.conf.zones = before ++ { x with item := { x.item with half := max x.item.half z.half } } :: after) ∧
      ((∀ y ∈ kept, ¬near y) → kept.length < 8 → ∃ place, t.conf.zones = kept ++ [⟨place, z⟩]) ∧
      (∀ before x after, (∀ y ∈ kept, ¬near y) → 8 ≤ kept.length → kept = before ++ x :: after →
        (∀ y ∈ before, ahead y.item.centre < ahead x.item.centre) →
        (∀ y ∈ after, ahead y.item.centre ≤ ahead x.item.centre) →
        (ahead z.centre < ahead x.item.centre → ∃ place, t.conf.zones = before ++ after ++ [⟨place, z⟩]) ∧
        (ahead x.item.centre ≤ ahead z.centre → t.conf.zones = kept)))

/-- The granted join of a peer's frame, on sound words (R136, R137, R141, R178): in RUN and HOLD
under POSITION for the same rail it makes the confirmation join and, for a WATCH, the zone offer; otherwise neither. With the
station record absent the frame is ignored. -/
def Obligations.PeerFrameIsJoined : Prop :=
  ∀ (s s1 : State) (j : PeerJoin), takeRx asPeer s = some (j, s1) → MemoryForm s → Sound s [0, 2, 4, 5] →
    SoundItems s confBase 4 s.conf.list → SoundItems s zoneBase 4 s.conf.zones → Calm s →
    let admitted := s.link.present = true ∧ j.railCode = (if (stationAt s).railRight then 1 else 0) ∧
      (s.link.run = .run ∨ s.link.run = .hold) ∧ (stationAt s).trigger = .position
    (admitted → ∃ t, exec .peerFrameJoin s = .next t ∧
      t.conf = (match j.zone with
        | some z => zoneOffer z (confJoin true j.entry s1)
        | none => confJoin true j.entry s1).conf ∧
      t.odo = s.odo ∧ t.trk = s.trk ∧ t.rep = s.rep ∧ t.mark = s.mark ∧ t.sched = s.sched ∧ t.link.run = s.link.run) ∧
    (¬admitted → exec .peerFrameJoin s = .next (release s1))

/-- A record that arrives at a full report queue, on sound words (R152): it displaces the lowest-ranked waiting record, the
newest among equals, when it outranks it, and is dropped otherwise; one report is counted lost either way. -/
def Obligations.FullReportQueueRanks : Prop :=
  ∀ (s : State) (r : IndicationRecord), s.rep.records.length = 16 → SoundItems s reportBase 11 s.rep.records →
    let waiting := if s.rep.locked.isSome then s.rep.records.tail else s.rep.records
    let below := fun x y : IndicationRecord => x.cls < y.cls ∨ (x.cls = y.cls ∧ x.peakAmp < y.peakAmp)
    let t := reportJoin r s
    t.link.counts = { s.link.counts with reportsLost := min 255 (s.link.counts.reportsLost + 1) } ∧
    t.rep.locked = s.rep.locked ∧
    ((∀ y ∈ waiting, ¬below y.item r) → t.rep = s.rep) ∧
    ((∃ y ∈ waiting, below y.item r) →
      ∃ before y after place, waiting = before ++ y :: after ∧ below y.item r ∧ (∀ x ∈ waiting, ¬below x.item y.item) ∧
        (∀ x ∈ after, below y.item x.item) ∧
        t.rep.records = s.rep.records.filter (fun x => !(x.place == y.place)) ++ [⟨place, r⟩])

/-! Setup. -/

/-- A setup frame that names what exists waits for its access, which a free store grants (R171, R182); one that names a slot above 11, an area above 7 or a
piece above 3 is refused and counted (R58, R182). A CLOSE SETUP asks for the checks in SETUP and is ignored in every other run
state (R183); that its run state is tested at the reception, also behind setup frames that wait or are granted, is the model's
choice (log 47). A setup frame granted in RUN or HOLD is write-aborted and counted, and nothing is stored or loaded (R174). -/
def Obligations.SetupFramesWaitOrAreRefused : Prop :=
  ∀ (s : State) (f : Frame),
    let refused := { s with link := { s.link with counts :=
      { s.link.counts with setupRefused := min 255 (s.link.counts.setupRefused + 1) } } }
    let waits := fun r => arbitrate { s with store := { s.store with rxReqs := s.store.rxReqs ++ [r] } }
    let b0 := (f.payload.getD 0 0).toNat
    let b1 := (f.payload.getD 1 0).toNat
    (FromRecorder s 1 f → exec (.setupStation f) s = .next (waits (.station f.payload))) ∧
    (FromRecorder s 2 f → b0 % 16 ≤ 11 → exec (.setupSlot f) s = .next (waits (.slot f.payload))) ∧
    (FromRecorder s 2 f → 11 < b0 % 16 → exec (.setupSlot f) s = .next refused) ∧
    (FromRecorder s 3 f → b0 ≤ 7 → b1 ≤ 3 → exec (.setupCurve f) s = .next (waits (.curve f.payload))) ∧
    (FromRecorder s 3 f → (7 < b0 ∨ 3 < b1) → exec (.setupCurve f) s = .next refused) ∧
    (FromRecorder s 4 f → s.link.run = .setup → exec (.closeSetup f) s = .next (waits .checks)) ∧
    (FromRecorder s 4 f → s.link.run ≠ .setup → exec (.closeSetup f) s = .next s) ∧
    (∀ (r : RxReq) (s1 : State), takeRx asSetup s = some (r, s1) → (s.store.grantRun = .run ∨ s.store.grantRun = .hold) →
      Calm s →
      exec .setupFrameStore s = .next (release { refused with store := s1.store }))

/-- The fields of a station record in their ranges (R182; R4, R20, R54, R65, R107, R125, R141, R157, R186). -/
def stationInRange (f : StationRecord) : StationRecord :=
  let nat := fun lo hi x : Nat => max lo (min hi x)
  { f with
    ps := max (-16000) (min 16000 f.ps), countLen := nat 1 64 f.countLen, stepCounts := nat 1 32 f.stepCounts
    hyst := nat 1 16 f.hyst, period := nat 50 65535 f.period, noiseFloor := nat 1 4095 f.noiseFloor
    span := nat 64 65535 f.span, window := nat 1 4095 f.window, depthTol := nat 0 255 f.depthTol
    maxSpan := nat 64 65535 f.maxSpan, confirmTol := nat 1 4095 f.confirmTol, watchHalf := nat 8 4095 f.watchHalf
    watchBoost := nat 0 24 f.watchBoost, gunOffset := max (-16000) (min 16000 f.gunOffset)
    markerPulse := nat 1 255 f.markerPulse, markLength := nat 8 8000 f.markLength, markSpacing := nat 0 8000 f.markSpacing
    statusInterval := nat 1 65535 f.statusInterval }

/-- A setup access granted in SETUP or READY, where the station then still is (R174). -/
def StoresSetup (s : State) : Prop :=
  (s.store.grantRun = .setup ∨ s.store.grantRun = .ready) ∧ (s.link.run = .setup ∨ s.link.run = .ready)

/-- A SETUP STATION frame stored in SETUP or READY (R4, R157, R174, R182, R184): the record reads back as the frame's fields,
each in its range, the words left over are zero, every other word stands, the record is present, the working copies are loaded,
and the run state is SETUP. -/
def Obligations.StationRecordIsStored : Prop :=
  ∀ (s s1 : State) (p : List Byte), takeRx asSetup s = some (.station p, s1) → p.length = 31 →
    StoresSetup s → MemoryForm s → Calm s →
    let r := stationInRange (stationOfBytes p)
    ∃ t, exec .setupFrameStore s = .next t ∧ stationAt t = r ∧ (∀ a, 8 ≤ a → a < 16 → t.word a = ⟨0, 0⟩) ∧
      (∀ a < 16, (t.word a).changed = 0) ∧ (∀ a, 16 ≤ a → t.word a = s.word a) ∧ t.link.present = true ∧
      t.link.run = .setup ∧ (s.link.run = .ready → t.link.statusDue = true) ∧
      t.odo = { s.odo with countLen := r.countLen, stepCounts := r.stepCounts, hyst := r.hyst, ps := r.ps } ∧
      t.mark = { s.mark with gunOffset := r.gunOffset, mode := r.markerMode, pulse := r.markerPulse,
                             length := r.markLength, spacing := r.markSpacing } ∧
      t.link.counts = s.link.counts ∧ t.sched = s.sched ∧ t.gain = s.gain ∧ t.trk = s.trk

/-- The fields of a slot record in their ranges (R182; R19, R54, R66, R72, R93, R107, R145). -/
def slotInRange (f : SlotRecord) : SlotRecord :=
  let nat := fun lo hi x : Nat => max lo (min hi x)
  let gate := fun g : GateFields => { g with
    start := nat 0 16383 g.start, stop := nat 0 16383 g.stop, threshold := nat 0 1000 g.threshold }
  { f with
    divisor := nat 1 8 f.divisor, baseGain := nat 0 120 f.baseGain, quiet := nat 10 400 f.quiet
    velocity := nat 1000 7000 f.velocity, wedge := nat 0 4095 f.wedge, depthFactor := nat 0 4096 f.depthFactor
    offsetFactor := nat 0 4096 f.offsetFactor, pm := max (-8000) (min 8000 f.pm), pa := max (-16000) (min 16000 f.pa)
    gateI := gate f.gateI, gateA := gate f.gateA, gateB := gate f.gateB
    couplingThreshold := nat 0 1000 f.couplingThreshold, closeGap := nat 1 32 f.closeGap, lossRun := nat 1 15 f.lossRun
    recoveryRun := nat 1 15 f.recoveryRun, nrep := nat 1 63 f.nrep, nwatch := nat 1 63 f.nwatch
    arep := nat 0 1000 f.arep, awatch := nat 0 1000 f.awatch, asev := nat 0 1000 f.asev }

/-- A SETUP SLOT frame stored in SETUP or READY (R35, R174, R182): the slot's record reads back as the frame's fields, each in
its range, a mode code above those of its gate as the highest of them, an area code above 7 as NONE; every word outside the
record stands, and the slot is no longer store-damaged. -/
def Obligations.SlotRecordIsStored : Prop :=
  ∀ (s s1 : State) (p : List Byte) (n : Slot), takeRx asSetup s = some (.slot p, s1) → p.length = 48 →
    (p.getD 0 0).toNat % 16 = n.val → StoresSetup s → MemoryForm s → Calm s →
    let modeA := (p.getD 18 0).toNat / 8 % 4
    let modeB := (p.getD 18 0).toNat / 32 % 4
    let area := (p.getD 4 0).toNat / 16
    ∃ t, exec .setupFrameStore s = .next t ∧ slotAt t n = slotInRange (slotOfBytes p) ∧
      (slotAt t n).gateA.mode = (if modeA = 0 then .first else .peak) ∧
      (slotAt t n).gateB.mode = (if modeB = 0 then .first else if modeB = 1 then .peak else .absence) ∧
      ((slotAt t n).area.map (·.val)) = (if area < 8 then some area else none) ∧
      (∀ k < 24, (t.word (slotBase n + k)).changed = 0) ∧
      (∀ a, (a < slotBase n ∨ slotBase n + 24 ≤ a) → t.word a = s.word a) ∧
      t.sched.storeDamaged[n] = false ∧ (∀ m : Slot, m ≠ n → t.sched.storeDamaged[m] = s.sched.storeDamaged[m]) ∧
      t.link.run = .setup ∧ t.link.counts = s.link.counts ∧ t.odo = s.odo ∧ t.mark = s.mark ∧ t.gain = s.gain

/-- A SETUP CURVE frame stored in SETUP or READY (R58): the piece's four points are the frame's, clamped, its flag is set,
and every other word and flag stands. -/
def Obligations.CurvePieceIsStored : Prop :=
  ∀ (s s1 : State) (p : List Byte) (a : Area) (b : Piece), takeRx asSetup s = some (.curve p, s1) → p.length = 14 →
    (p.getD 0 0).toNat = a.val → (p.getD 1 0).toNat = b.val → StoresSetup s →
    MemoryForm s → Calm s →
    ∃ t, exec .setupFrameStore s = .next t ∧
      (∀ k < 4, pointOfWord (t.word (pointAddr a (4 * b.val + k))).data =
        (min 16383 (u16At p (2 + 3 * k)), max (-40) (min 40 (s8At p (4 + 3 * k))))) ∧
      (∀ x, (x < pointAddr a (4 * b.val) ∨ pointAddr a (4 * b.val) + 4 ≤ x) → t.word x = s.word x) ∧
      (t.gain.pieces[a])[b] = true ∧
      (∀ (a' : Area) (b' : Piece), ¬(a' = a ∧ b' = b) → (t.gain.pieces[a'])[b'] = (s.gain.pieces[a'])[b']) ∧
      t.link.run = .setup ∧ t.gain.flat = s.gain.flat ∧ t.odo = s.odo ∧ t.sched = s.sched

/-- The checks of a CLOSE SETUP in SETUP on a sound setup area (R60, R73, R92, R183): READY when the record is present, and
for every slot Nwatch and Awatch clamped, the gate-off and sync-off marks, the effective source and the flat-gain mark. With two
changed bits in one word that the checks read of a slot's record, and all else sound: the slot is store-damaged, its gate-off and
sync-off marks are clear and its source is INTERFACE; its flat-gain mark is clear where the damage lies in its area word or, found
before, in its thresholds. That the outcomes hold from the finding on is the model's reading (log 38). -/
def Obligations.CloseSetupChecksDecide : Prop :=
  (∀ (s s1 : State) (m : Slot) (k : Nat), takeRx asChecks s = some ((), s1) → s.link.run = .setup → MemoryForm s → Calm s →
    k ∈ [0, 1, 4, 5, 6, 7, 8, 10, 11] → bitCount 39 (s.word (slotBase m + k)).changed = 2 →
    (∀ a, 16 ≤ a → a < 432 → a ≠ slotBase m + k → (s.word a).changed = 0) →
    ∃ t, exec .closeSetupChecks s = .next t ∧ t.link.run = (if s.link.present then .ready else .setup) ∧
      (∀ n : Slot, t.sched.storeDamaged[n] = (s.sched.storeDamaged[n] || n == m)) ∧
      t.gates.offI[m] = false ∧ t.gates.offA[m] = false ∧ t.gates.offB[m] = false ∧ t.gates.syncOff[m] = false ∧
      t.coup.slots[m].source = .interface ∧ (k ∈ [1, 10, 11] → t.gain.flat[m] = .clear)) ∧
  ∀ (s s1 : State), takeRx asChecks s = some ((), s1) → s.link.run = .setup → MemoryForm s → Calm s →
    Sound s ((List.range 416).map (16 + ·)) →
    ∃ t, exec .closeSetupChecks s = .next t ∧ t.link.run = (if s.link.present then .ready else .setup) ∧
      t.odo = s.odo ∧ t.link.counts = s.link.counts ∧ t.sched = s.sched ∧ t.gain.pieces = s.gain.pieces ∧
      ∀ n : Slot,
        let r := slotAt s n
        let off := fun g : GateFields => g.enable = true ∧ g.stop ≤ g.start
        slotAt t n = { r with nwatch := min r.nwatch r.nrep, awatch := min r.awatch r.arep } ∧
        (t.gates.offI[n] = true ↔ off r.gateI) ∧ (t.gates.offA[n] = true ↔ off r.gateA) ∧
        (t.gates.offB[n] = true ↔ off r.gateB) ∧
        (t.gates.syncOff[n] = true ↔ r.interfaceSync = true ∧ (r.gateI.enable = false ∨ off r.gateI)) ∧
        ((r.sourceGateB = true ∧ r.gateB.enable = true ∧ ¬off r.gateB ∧ r.gateB.mode ≠ .absence) →
          t.coup.slots[n].source = .gateB) ∧
        (¬(r.sourceGateB = true ∧ r.gateB.enable = true ∧ ¬off r.gateB ∧ r.gateB.mode ≠ .absence) →
          t.coup.slots[n].source = if r.gateI.enable = true ∧ r.gateI.start < r.gateI.stop then .interface else .none) ∧
        (r.area = none → t.gain.flat[n] = .clear) ∧
        (∀ a, r.area = some a → (∃ b : Piece, (s.gain.pieces[a])[b] = false) → t.gain.flat[n] = .incomplete) ∧
        (∀ a, r.area = some a → (∀ b : Piece, (s.gain.pieces[a])[b] = true) →
          ((curveAt s a).Pairwise (fun x y => x.1 < y.1) → t.gain.flat[n] = .clear) ∧
          (¬(curveAt s a).Pairwise (fun x y => x.1 < y.1) → t.gain.flat[n] = .order))

/-! The car link and run control. -/

/-- The line and the waits (R177, R179, R180): a malformed frame is counted unless the station is sending; activity counts the idle
wait afresh, ends a delay, and in every access state clears the hold-off when another node makes it; at the end of the idle wait
the access delay starts; and in IDLE a frame that is ready starts the idle wait. A sent head whose removal waits makes no frame
ready; that the entries behind it do is the model's reading (log 23). -/
def Obligations.LineEvents : Prop :=
  ∀ s : State,
    let waiting := s.store.txReqs.any (· == .removeHead false)
    let ready := (waiting = false ∧ s.link.fifo ≠ []) ∨ (waiting = true ∧ s.link.fifo.tail ≠ []) ∨ s.rep.records ≠ [] ∨
      s.link.statusDue = true ∨ s.link.partsLeft ≠ [] ∨ s.link.shotBuf ≠ none
    (∀ bytes, s.link.access ≠ .sending → frameMalformed bytes = true → exec (.malformedFrame bytes) s =
      .next { s with link := { s.link with counts :=
        { s.link.counts with crcErrors := min 255 (s.link.counts.crcErrors + 1) } } }) ∧
    (∀ bytes, s.link.access = .sending → exec (.malformedFrame bytes) s = .next s) ∧
    (∀ other : Bool, (s.link.access = .idleWait ∨ s.link.access = .delay ∨ (s.link.access = .idle ∧ ready)) →
      exec (.lineActivity other) s = .next { s with link := { s.link with
        access := .idleWait, holdOff := s.link.holdOff && !other
        wait := some (if s.link.holdOff = true ∧ other = false then 56 else 24) } }) ∧
    (∀ other : Bool, ((s.link.access = .idle ∧ ¬ready) ∨ s.link.access = .sending) →
      exec (.lineActivity other) s = .next { s with link := { s.link with holdOff := s.link.holdOff && !other } }) ∧
    (s.link.access = .idleWait → exec .idleWaitExpiry s =
      .next { s with link := { s.link with access := .delay, holdOff := false, wait := some (s.strap.val * 4) } }) ∧
    (s.link.access = .idle → ready → linkWake s =
      { s with link := { s.link with access := .idleWait, wait := some (if s.link.holdOff then 56 else 24) } }) ∧
    (¬(s.link.access = .idle ∧ ready) → linkWake s = s)

/-- Peers' frames (R178): an INDICATION or WATCH waits for its join when the station record is present, and is ignored when
it is absent; STATUS and SHOT frames are ignored; a frame with this station's own number sets the clash flag and nothing else. A
SHOT REQUEST of the recorder names the slot held, and a number above 11 is ignored (R36). -/
def Obligations.PeerFramesAndShotRequests : Prop :=
  ∀ (s : State) (f : Frame),
    let waits := fun r => arbitrate { s with store := { s.store with rxReqs := s.store.rxReqs ++ [r] } }
    let src := f.source.toNat
    (FromPeer s 10 f → exec (.indication f) s = .next (if s.link.present then waits (.indication src f.payload) else s)) ∧
    (FromPeer s 11 f → exec (.watch f) s = .next (if s.link.present then waits (.watch src f.payload) else s)) ∧
    (FromPeer s 12 f → exec (.peerStatusFrame f) s = .next s) ∧
    (FromPeer s 13 f → exec (.peerShotFrame f) s = .next s) ∧
    (∀ c kind, (c, kind) ∈ [(Instr.indication f, 10), (.watch f, 11), (.peerStatusFrame f, 12), (.peerShotFrame f, 13)] →
      Arrives s kind f → src = s.strap.val → exec c s = .next { s with link := { s.link with clash := true } }) ∧
    (FromRecorder s 9 f →
      (∀ n : Slot, (f.payload.getD 0 0).toNat = n.val →
        exec (.shotRequest f) s = .next { s with sched := { s.sched with request := some n } }) ∧
      (11 < (f.payload.getD 0 0).toNat → exec (.shotRequest f) s = .next s))

/-- The repetition timer at the entry to RUN (R20), the trigger and the period read as last written. -/
def timerOnArm (s : State) : Option Nat :=
  if (stationAt s).trigger = .timer then some (stationAt s).period else none

/-- No store access of a setup frame is in progress (R174). -/
def NoSetupStore (s : State) : Prop := takeRx asSetup s = none

/-- ARM NEW in READY or HOLD (R16, R18, R20, R31, R34, R46, R99, R101, R103, R134, R149, R156, R163, R184, R186), on sound setup
words; in SETUP and RUN it is ignored. ARM RESUME in HOLD continues the run with the table, the lists, the queues and the gaps
kept (R134, R148); elsewhere it is ignored, and an ARM of another mode always. With a setup frame's store access in progress an
ARM NEW in READY carries it out and is not taken, and in HOLD either ARM comes after it (R174). The model's own choices are these:
a count outstanding is completed first (log 1); the setup words are read at the ARM without an access (log 10); entries waiting
for a sweep go at an ARM NEW and stay at an ARM RESUME (log 18); a wedge delay above 4095 would load as 4095 (log 31); the setup
access is completed by the frame (log 42). -/
def Obligations.ArmsEnterRun : Prop :=
  ∀ (s : State) (f : Frame), FromRecorder s 5 f →
    let fresh := fun t : State => t.link.run = .run ∧ t.link.statusDue = true ∧ t.link.stepCount = 0 ∧
      t.link.statusTimer = none ∧ t.link.tx = s.link.tx ∧ t.link.partsLeft = s.link.partsLeft ∧
      t.link.shotBuf = s.link.shotBuf ∧ (∀ n : Slot, t.sched.settled[n] = false ∧ t.sched.zeroFailed[n] = false) ∧
      t.sched.storeDamaged = s.sched.storeDamaged ∧ t.sched.repTimer = timerOnArm s ∧ t.sched.request = s.sched.request ∧
      t.rail = { s.rail with deferral := 0 } ∧ couplingFresh s t ∧ t.gain = s.gain ∧ t.gates = s.gates ∧
      t.store.cells = s.store.cells ∧ t.store.shotReqs = s.store.shotReqs ∧ t.store.rxReqs = s.store.rxReqs
    (2 ≤ (f.payload.getD 0 0).toNat → exec (.armNew f) s = .next s ∧ exec (.armResume f) s = .next s) ∧
    (∀ u : State, s.link.run = .hold → Settled s → Calm s → exec .setupFrameStore s = .next u → NoSetupStore u →
      ((f.payload.getD 0 0).toNat = 0 → exec (.armNew f) s = exec (.armNew f) u) ∧
      ((f.payload.getD 0 0).toNat = 1 → exec (.armResume f) s = exec (.armResume f) u)) ∧
    ((f.payload.getD 0 0).toNat = 0 →
      ((s.link.run = .setup ∨ s.link.run = .run) → exec (.armNew f) s = .next s) ∧
      (∀ r s1, s.link.run = .ready → takeRx asSetup s = some (r, s1) → StoresSetup s → Settled s → Calm s →
        exec (.armNew f) s = exec .setupFrameStore s) ∧
      ((s.link.run = .ready ∨ s.link.run = .hold) → Settled s → NoSetupStore s → Calm s → Sound s [0, 1] →
        (∀ n, SoundSlot s n [2]) →
        let start := s32At f.payload 1
        let pc := max (-2147483647) (min 2147483647 start)
        let gun := pc + s.mark.gunOffset
        ∃ t, exec (.armNew f) s = .next t ∧ fresh t ∧ t.link.counts.all = List.replicate 10 0 ∧ t.link.clash = false ∧
          t.link.gapList = [] ∧ (∀ (n : Slot) (c : GapCause), (t.link.untold[n]).get c = false) ∧
          t.link.fifo = fifoCleared s ∧
          t.odo = { s.odo with pc := pc, posLimit := decide (start ≠ pc), acc := 0, revRun := 0, index := 0 } ∧
          (∀ n : Slot, t.sched.wedge[n] = min 4095 (slotAt s n).wedge ∧ ∀ c, (t.coup.gaps[n]).get c = none) ∧
          (∀ i : Fin 32, t.trk.entries[i] = none) ∧ t.trk.order = [] ∧ t.trk.next = 1 ∧
          t.conf.list = [] ∧ t.conf.zones = [] ∧ t.rep.locked = s.rep.locked ∧
          (s.link.run = .ready → t.rep = s.rep) ∧
          (s.link.run = .hold → t.rep.records = if s.rep.locked.isSome then s.rep.records.take 1 else []) ∧
          t.mark = { s.mark with marks := [], on := false, pulseTimer := none, reference := none, least := gun,
                                 greatest := gun, latest := gun })) ∧
    ((f.payload.getD 0 0).toNat = 1 →
      (s.link.run ≠ .hold → exec (.armResume f) s = .next s) ∧
      (s.link.run = .hold → Settled s → NoSetupStore s → Calm s → Sound s [0, 1] →
        ∃ t, exec (.armResume f) s = .next t ∧ fresh t ∧ t.link.counts = s.link.counts ∧ t.link.clash = s.link.clash ∧
          t.link.gapList = s.link.gapList ∧ t.link.untold = s.link.untold ∧ t.link.fifo = s.link.fifo ∧
          t.sched.wedge = s.sched.wedge ∧ t.coup.gaps = s.coup.gaps ∧ t.odo = s.odo ∧ t.trk = s.trk ∧ t.conf = s.conf ∧
          t.rep = s.rep ∧ t.mark = s.mark))

/-- HALT in RUN (R17, R30, R103, R123, R184, R186), and that it is ignored in every other run state. The requests that wait stay,
its turns and formations given up, and the sweep waits behind them. The slots not yet disposed of in
the round in flight, and those of a pending round, take OVERRUN gaps to their round's position. -/
def Obligations.HaltHoldsTheRun : Prop :=
  ∀ (s : State) (f : Frame), FromRecorder s 6 f →
    (s.link.run ≠ .run → exec (.halt f) s = .next s) ∧
    (s.link.run = .run → Settled s → NoSetupStore s →
      ∃ t, exec (.halt f) s = .next t ∧ t.link.run = .hold ∧ t.link.statusDue = true ∧ t.link.stepCount = 0 ∧
        t.link.statusTimer = some 1000 ∧ leftRun s t ∧ t.store.shotReqs = givenUp s.store.shotReqs ++ [[.sweep .halt]] ∧
        t.sched.request = s.sched.request ∧ t.sched.wedge = s.sched.wedge ∧
        t.sched.settled = s.sched.settled ∧ t.sched.storeDamaged = s.sched.storeDamaged ∧ t.link.fifo = s.link.fifo ∧
        t.link.tx = s.link.tx ∧ t.link.shotBuf = s.link.shotBuf ∧ t.link.clash = s.link.clash ∧ t.odo = s.odo ∧
        t.trk = s.trk ∧ t.conf = s.conf ∧ t.rep = s.rep ∧ t.mark = s.mark ∧ t.gain = s.gain ∧ t.gates = s.gates ∧
        t.store.cells = s.store.cells ∧ t.coup.slots = s.coup.slots ∧
        (s.sched.round = none → s.sched.pendingRound = none → t.coup = s.coup ∧ t.link.counts = s.link.counts ∧
          t.link.gapList = s.link.gapList) ∧
        ∀ n : Slot, (t.coup.gaps[n]).get .overrun = overrunGap s n ∧
          ∀ c, c ≠ .overrun → (t.coup.gaps[n]).get c = (s.coup.gaps[n]).get c)

/-- END in RUN or HOLD (R17, R30, R35, R36, R103, R123, R149, R163, R180, R184, R186), and that it is ignored in SETUP and READY.
The requests that wait stay, in RUN with turns and formations given up, and the sweep waits behind them. In RUN the slots not yet disposed of take OVERRUN gaps as at a HALT. -/
def Obligations.EndClosesTheRun : Prop :=
  ∀ (s : State) (f : Frame), FromRecorder s 7 f →
    ((s.link.run = .setup ∨ s.link.run = .ready) → exec (.endRun f) s = .next s) ∧
    ((s.link.run = .run ∨ s.link.run = .hold) → Settled s → NoSetupStore s →
      ∃ t, exec (.endRun f) s = .next t ∧ t.link.run = .ready ∧ t.link.statusDue = true ∧ t.link.stepCount = 0 ∧
        t.link.statusTimer = (if s.link.run = .run then some 1000 else s.link.statusTimer) ∧
        (s.link.run = .run → leftRun s t) ∧
        t.store.shotReqs =
          (if s.link.run = .run then givenUp s.store.shotReqs else s.store.shotReqs) ++ [[.sweep .runEnd]] ∧
        t.sched.request = none ∧
        (∀ n : Slot, t.sched.storeDamaged[n] = false) ∧ t.sched.wedge = s.sched.wedge ∧
        t.sched.settled = s.sched.settled ∧ t.conf.list = [] ∧ t.conf.zones = [] ∧
        t.mark = { s.mark with marks := [], on := false, pulseTimer := none, reference := none } ∧
        t.link.fifo = fifoCleared s ∧ t.link.tx = s.link.tx ∧ t.link.shotBuf = s.link.shotBuf ∧ t.odo = s.odo ∧
        t.trk = s.trk ∧ t.rep = s.rep ∧ t.gain = s.gain ∧ t.gates = s.gates ∧ t.store.cells = s.store.cells ∧
        t.coup.slots = s.coup.slots ∧
        ((s.link.run = .hold ∨ (s.sched.round = none ∧ s.sched.pendingRound = none)) →
          t.coup = s.coup ∧ t.link.counts = s.link.counts ∧ t.link.gapList = s.link.gapList) ∧
        (s.link.run = .run → ∀ n : Slot, (t.coup.gaps[n]).get .overrun = overrunGap s n ∧
          ∀ c, c ≠ .overrun → (t.coup.gaps[n]).get c = (s.coup.gaps[n]).get c))

/-- A STATION RESET frame in any run state (R15, R30, R35, R36, R46, R99, R163, R184, R185, R186): the stored collections stand
for its clearing access, which empties them (R134, R150, R156, R175). That the marker output, the FIFO and all else go at the
frame, and the output and the FIFO again at the access, is the model's choice (log 16). -/
def Obligations.StationResetClears : Prop :=
  (∀ (s : State) (f : Frame), FromRecorder s 8 f → Settled s → NoSetupStore s →
    ∃ t, exec (.stationReset f) s = .next t ∧ blocksReset s t ∧ t.link.present = s.link.present ∧
      t.trk = s.trk ∧ t.conf = s.conf ∧ t.rep = s.rep ∧ t.mark.marks = s.mark.marks ∧
      t.store.rxReqs = s.store.rxReqs ++ [.clearing] ∧ t.store.cells = s.store.cells) ∧
  ∀ (s s1 : State), takeRx asClearing s = some ((), s1) → Calm s →
    ∃ t, exec .stationResetClearing s = .next t ∧ collectionsEmpty t ∧
      t.mark = { s.mark with marks := [], on := false, pulseTimer := none, reference := none } ∧
      t.link.fifo = fifoCleared s ∧ t.link.run = s.link.run ∧ t.link.counts = s.link.counts ∧ t.odo = s.odo ∧
      t.sched = s.sched ∧ t.coup = s.coup ∧ t.rail = s.rail ∧ t.gain = s.gain ∧ t.store.cells = s.store.cells

/-- One byte. -/
def byte1 (n : Nat) : Byte := BitVec.ofNat 8 n
/-- Two bytes, the high one first. -/
def bytes2 (n : Nat) : List Byte := [byte1 (n / 256), byte1 n]
/-- The four bytes of a signed value, the high one first. -/
def bytes4 (x : Int) : List Byte :=
  let n := (x % 4294967296).toNat
  [byte1 (n / 16777216), byte1 (n / 65536), byte1 (n / 256), byte1 n]

/-- Bit `k` of a field. -/
def bitOf (b : Bool) (k : Nat) : Nat := if b then 2 ^ k else 0

/-- The code of a run state (R189). -/
def runCode (r : RunState) : Nat := match r with | .setup => 0 | .ready => 1 | .run => 2 | .hold => 3

/-- The 16 bits of a slot in STATUS part 0 (R189). -/
def slotBits (s : State) (n : Slot) : Nat :=
  (match s.coup.slots[n].state with | .coupled => 0 | .doubtful => 1 | .lost => 2 | .recovering => 3)
    + bitOf s.coup.portFault[(slotAt s n).txPort] 2
    + 8 * (match s.gain.flat[n] with | .clear => 0 | .incomplete => 1 | .order => 2 | .damaged => 3)
    + bitOf s.gates.offI[n] 5 + bitOf s.gates.offA[n] 6 + bitOf s.gates.offB[n] 7 + bitOf s.gates.syncOff[n] 8
    + bitOf s.sched.zeroFailed[n] 9
    + 1024 * (match s.coup.slots[n].source with | .interface => 0 | .gateB => 1 | .none => 2)
    + bitOf s.sched.storeDamaged[n] 12

/-- STATUS part 0 (R189), its 41 bytes in order. Dir is read with its new sense once a reversal is reached (R10). -/
def partZero (s : State) : List Byte :=
  let gaps := s.link.gapList.length
  let parts := if gaps = 0 then 1 else if gaps ≤ 4 then 2 else 3
  let minus := (s.odo.dir == .minus) != s.odo.revReached
  let c := s.link.counts
  [byte1 (4 * parts + 16 * runCode s.link.run),
   byte1 (bitOf minus 0 + bitOf s.rail.stuck 1 + bitOf s.odo.posLimit 2 + bitOf s.link.clash 3 + bitOf s.link.present 4)]
    ++ bytes4 s.odo.pc
    ++ bytes2 (slotBits s 0) ++ bytes2 (slotBits s 1) ++ bytes2 (slotBits s 2) ++ bytes2 (slotBits s 3)
    ++ bytes2 (slotBits s 4) ++ bytes2 (slotBits s 5) ++ bytes2 (slotBits s 6) ++ bytes2 (slotBits s 7)
    ++ bytes2 (slotBits s 8) ++ bytes2 (slotBits s 9) ++ bytes2 (slotBits s 10) ++ bytes2 (slotBits s 11)
    ++ [byte1 c.reportsLost, byte1 c.watchesDropped, byte1 c.trackerSaturation, byte1 c.markerMissed, byte1 c.storeCorrected,
        byte1 c.storeUncorrectable, byte1 c.crcErrors, byte1 c.setupRefused, byte1 c.encoderErrors, byte1 c.untoldGaps]
    ++ [byte1 gaps]

/-- The payload of a SHOT frame (R189), its 48 bytes in order; the places beyond the peak list are 0. -/
def shotPayload (x : ShotAnswer) : List Byte :=
  let r := x.record
  let peak := fun k : Nat => match r.peaks[k]? with
    | some p => bytes2 p.time ++ bytes2 p.raw
    | none => [0, 0, 0, 0]
  let gate := fun g : GateResult =>
    let status := match g.status with
      | .disabled => 0 | .notEvaluated => 1 | .found => 2 | .notFound => 3 | .loss => 4 | .present => 5
    byte1 (status + 16 * g.place.getD 0) :: bytes2 (g.amp.getD 0)
  [byte1 r.slot.val,
   byte1 (bitOf r.transmitted 0 + bitOf r.overflow 1 + bitOf r.settle 2 + bitOf r.unclaimed 3 + bitOf x.results.noInterface 4),
   byte1 r.peaks.length]
    ++ bytes4 r.firePos
    ++ peak 0 ++ peak 1 ++ peak 2 ++ peak 3 ++ peak 4 ++ peak 5 ++ peak 6 ++ peak 7
    ++ gate x.results.i ++ gate x.results.a ++ gate x.results.b

/-- The nine bytes of a gap record (R189). -/
def gapRecordBytes (g : GapRecord) : List Byte :=
  let cause := match g.cause with | .overrun => 0 | .port => 1 | .store => 2 | .coupling => 3
  byte1 (g.slot.val + 16 * cause + bitOf g.isOpen 6) :: (bytes4 g.fromPos ++ bytes4 g.toPos)

/-- The parts of a report after part 0 (R186, R189): none without gap records, one for up to four, two for up to eight, each
with its number, the number of parts, the run state, its count of records and the records in order. -/
def laterParts (state : RunState) (gaps : List GapRecord) : List (List Byte) :=
  let part := fun (k parts : Nat) (gs : List GapRecord) =>
    [byte1 (k + 4 * parts + 16 * runCode state), byte1 gs.length] ++ gs.flatMap gapRecordBytes
  if gaps.length = 0 then [] else if gaps.length ≤ 4 then [part 1 2 gaps]
  else [part 1 3 (gaps.take 4), part 2 3 (gaps.drop 4)]

/-- The source taken at the end of the access delay (R153, R180, R181, R186 to R189): the FIFO's head, the head of the
report queue, which becomes locked, a part left of a report, a new report, or the SHOT frame. The bytes of part 0 and of a SHOT frame
are those of R189. A new report leaves its later parts, which carry the gap records in order, and its build clears the counts, the
flag and the closed records. A request for a read is
granted by a free store (R171). That the slots' transmit ports are read from their records at the build is the model's choice
(log 10): those words are taken as sound. -/
def Obligations.SourceIsChosenInOrder : Prop :=
  ∀ s : State, s.link.access = .delay →
    let passed := s.link.fifo = [] ∨ s.store.txReqs.any (· == .removeHead false) = true
    let reading := { s.link with access := Access.sending, wait := none, tx := .reading }
    let send := fun (l : LinkUnit) (k : TxKind) (bytes : List Byte) =>
      { l with access := Access.sending, wait := none, tx := .sending k bytes }
    (¬passed → exec .accessDelayExpiry s =
      .next (arbitrate { s with link := reading, store := { s.store with txReqs := s.store.txReqs ++ [.readFifo false] } })) ∧
    (∀ r rest, passed → s.rep.records = r :: rest → exec .accessDelayExpiry s =
      .next (arbitrate { s with
        rep := { s.rep with locked := some r.item.number }, link := reading
        store := { s.store with txReqs := s.store.txReqs ++ [.readReport] } })) ∧
    (∀ p rest, passed → s.rep.records = [] → s.link.partsLeft = p :: rest → exec .accessDelayExpiry s =
      .next (arbitrate { s with link := send { s.link with partsLeft := rest } .status (frameBytes 12 s.strap.val 15 p) })) ∧
    (passed → s.rep.records = [] → s.link.partsLeft = [] → s.link.statusDue = true → (∀ n, SoundSlot s n [0]) →
      let built := { s.link with
        statusDue := false, stepCount := 0, partsLeft := laterParts s.link.run s.link.gapList, clash := false
        statusTimer := if s.link.run = .run then s.link.statusTimer else some 1000
        counts := ⟨0, 0, 0, 0, 0, 0, 0, 0, 0, 0⟩, gapList := s.link.gapList.filter (·.isOpen) }
      exec .accessDelayExpiry s =
        .next (arbitrate { s with link := send built .status (frameBytes 12 s.strap.val 15 (partZero s)) }) ∧
      (partZero s).length = 41 ∧
      (s.link.gapList.length ≤ 8 → ∀ p ∈ laterParts s.link.run s.link.gapList, lengthFits 12 p.length = true)) ∧
    (∀ x, passed → s.rep.records = [] → s.link.partsLeft = [] → s.link.statusDue = false → s.link.shotBuf = some x →
      exec .accessDelayExpiry s = .next (arbitrate { s with
        link := send { s.link with shotBuf := none } .shot (frameBytes 13 s.strap.val 15 (shotPayload x)) }) ∧
      (shotPayload x).length = 48) ∧
    (s.link.fifo = [] → s.rep.records = [] → s.link.partsLeft = [] → s.link.statusDue = false → s.link.shotBuf = none →
      exec .accessDelayExpiry s =
        .next (arbitrate { s with link := { s.link with access := .idle, wait := none, tx := .none } }))

/-- The transmitter's read on sound words (R153, R180): the locked record's INDICATION frame, the FIFO head's WATCH frame, or, for
a head that has left, the head of the report queue next. The end of a frame and the removal of a sent head (R154, R179, R180): a
sent report leaves and the lock goes, a sent WATCH asks for its removal, the hold-off is set and the access state rests; the
granted removal, on sound words, takes the head out. -/
def Obligations.TransmitterSendsAndMovesOn : Prop :=
  (∀ (s s1 : State),
    (∀ r rest n, takeTx asRead s = some (none, s1) → s.rep.locked = some n → s.rep.records = r :: rest →
      Sound s (wordsFrom (reportBase r.place) 11) →
      exec .transmitterRead s = .next (release { s1 with
        link := { s.link with access := .sending, wait := none,
                              tx := .sending .indication (frameBytes 10 s.strap.val 31 (indicationBytes r.item)) } })) ∧
    (∀ w rest, takeTx asRead s = some (some false, s1) → s.link.fifo = w :: rest →
      Sound s (wordsFrom (fifoBase w.place) 4) →
      exec .transmitterRead s = .next (release { s1 with
        link := { s.link with access := .sending, wait := none,
                              tx := .sending .watch (frameBytes 11 s.strap.val 31 (watchBytes w.item)) } })) ∧
    (∀ r rest, takeTx asRead s = some (some true, s1) → s.rep.records = r :: rest →
      exec .transmitterRead s = .next (release { s1 with
        rep := { s.rep with locked := some r.item.number }
        store := { s1.store with txReqs := s1.store.txReqs ++ [.readReport] }
        link := { s.link with access := .sending, wait := none, tx := .reading } })) ∧
    (∀ w l, takeTx asRemoval s = some (false, s1) → s.link.fifo = w :: l → Sound s (wordsFrom (fifoBase w.place) 4) →
      exec .fifoRemoval s = .next (release { s1 with link := { s.link with fifo := l } })) ∧
    (takeTx asRemoval s = some (true, s1) → exec .fifoRemoval s = .next (release s1))) ∧
  ∀ (s : State),
    let rest := { s.link with access := Access.idle, holdOff := true, wait := none, tx := .none }
    (∀ bytes n, s.link.tx = .sending .indication bytes → s.rep.locked = some n → exec .transmissionEnd s =
      .next (arbitrate (linkWake { s with rep := { records := s.rep.records.tail, locked := none }, link := rest }))) ∧
    (∀ bytes, s.link.tx = .sending .watch bytes → s.link.fifo ≠ [] → exec .transmissionEnd s =
      .next (arbitrate (linkWake { s with
        store := { s.store with txReqs := s.store.txReqs ++ [.removeHead false] }, link := rest }))) ∧
    (∀ bytes, (s.link.tx = .sending .status bytes ∨ s.link.tx = .sending .shot bytes) →
      exec .transmissionEnd s = .next (arbitrate (linkWake { s with link := rest })))

/-- Frames (R135, R140, R176, R177, R189): a frame as this station builds it is malformed exactly when its length is not one
its kind has, every frame cut short is malformed, and what a peer takes from an INDICATION or a WATCH is what was put in. That a
STATUS frame's length is judged by its kind alone, and not by its part and record bytes, is the model's choice (log 46). -/
def Obligations.FramesCarryTheirFields : Prop :=
  (∀ (kind src dst : Nat) (p : List Byte), kind < 256 → p.length < 256 →
    (frameMalformed (frameBytes kind src dst p) = true ↔ lengthFits kind p.length = false) ∧
    ∀ k, 1 ≤ k → k < 7 + p.length → frameMalformed ((frameBytes kind src dst p).take k) = true) ∧
  (∀ (src : Nat) (r : IndicationRecord), r.number ≤ 65535 → -2147483648 ≤ r.peakPos → r.peakPos ≤ 2147483647 →
    (indicationBytes r).length = 29 ∧
    asPeer (.indication src (indicationBytes r)) = some
      { railCode := if r.railRight then 1 else 0
        entry := { station := src, slot := r.slot.val, number := r.number, pos := r.peakPos, mark := .reported }
        zone := none }) ∧
  ∀ (src : Nat) (w : WatchOut), w.origin ≤ 65535 → w.half ≤ 65535 → w.slot ≤ 255 → -2147483648 ≤ w.centre →
    w.centre ≤ 2147483647 →
    (watchBytes w).length = 10 ∧
    asPeer (.watch src (watchBytes w)) = some
      { railCode := if w.railRight then 1 else 0
        entry := { station := src, slot := w.slot, number := w.origin, pos := w.centre, mark := .weak }
        zone := some { centre := w.centre, half := max 8 (min 4095 w.half) } }

/-! The invariants. -/

/-- The state right after reset meets every invariant. -/
def Obligations.ResetMeetsInvariants : Prop :=
  MemoryForm State.reset ∧ OdometryRange State.reset ∧ CountsBounded State.reset ∧ Capacities State.reset ∧
    CountersInRange State.reset ∧ OrderListsOpen State.reset

/-- Every step keeps the canonical form of the store's memory (R165, R166). -/
def Obligations.StepKeepsMemoryForm : Prop := ∀ s t : State, MemoryForm s → step s = .next t → MemoryForm t

/-- Every step keeps Pc in the track position range and the step index below 840 (R5, R8). -/
def Obligations.StepKeepsOdometryRange : Prop := ∀ s t : State, OdometryRange s → step s = .next t → OdometryRange t

/-- Every step keeps the ten counts at 255 or below, every list and queue within its capacity, and the small counters in
their ranges (R46, R57, R100, R115, R137, R142, R152, R158, R180, R187, R188). -/
def Obligations.StepKeepsBounds : Prop :=
  ∀ s t : State, CountsBounded s → Capacities s → CountersInRange s → step s = .next t →
    CountsBounded t ∧ Capacities t ∧ CountersInRange t

/-- Every step keeps the opening order a list of each OPEN index once and no other (R114, R116, R120, R124). -/
def Obligations.StepKeepsOpeningOrder : Prop := ∀ s t : State, OrderListsOpen s → step s = .next t → OrderListsOpen t
end

