-- ==== Sys2Proof/Laws/State.lean ====
section
/-! SUPPORT. One lemma per field and per update of the state, each true by unfolding once. -/

namespace Sys2Proof.Machine

@[simp] theorem State.withPending_strap (s : State) (q : List Instr) : (s.withPending q).strap = s.strap := rfl
@[simp] theorem State.withPending_resetPin (s : State) (q : List Instr) : (s.withPending q).resetPin = s.resetPin := rfl
@[simp] theorem State.withPending_odo (s : State) (q : List Instr) : (s.withPending q).odo = s.odo := rfl
@[simp] theorem State.withPending_sched (s : State) (q : List Instr) : (s.withPending q).sched = s.sched := rfl
@[simp] theorem State.withPending_rail (s : State) (q : List Instr) : (s.withPending q).rail = s.rail := rfl
@[simp] theorem State.withPending_gain (s : State) (q : List Instr) : (s.withPending q).gain = s.gain := rfl
@[simp] theorem State.withPending_gates (s : State) (q : List Instr) : (s.withPending q).gates = s.gates := rfl
@[simp] theorem State.withPending_coup (s : State) (q : List Instr) : (s.withPending q).coup = s.coup := rfl
@[simp] theorem State.withPending_trk (s : State) (q : List Instr) : (s.withPending q).trk = s.trk := rfl
@[simp] theorem State.withPending_conf (s : State) (q : List Instr) : (s.withPending q).conf = s.conf := rfl
@[simp] theorem State.withPending_rep (s : State) (q : List Instr) : (s.withPending q).rep = s.rep := rfl
@[simp] theorem State.withPending_mark (s : State) (q : List Instr) : (s.withPending q).mark = s.mark := rfl
@[simp] theorem State.withPending_store (s : State) (q : List Instr) : (s.withPending q).store = s.store := rfl
@[simp] theorem State.withPending_link (s : State) (q : List Instr) : (s.withPending q).link = s.link := rfl
@[simp] theorem State.withPending_pending (s : State) (q : List Instr) : (s.withPending q).pending = q := rfl

@[simp] theorem State.withGrant_strap (s : State) (g : Option Requester) : (s.withGrant g).strap = s.strap := rfl
@[simp] theorem State.withGrant_resetPin (s : State) (g : Option Requester) : (s.withGrant g).resetPin = s.resetPin := rfl
@[simp] theorem State.withGrant_odo (s : State) (g : Option Requester) : (s.withGrant g).odo = s.odo := rfl
@[simp] theorem State.withGrant_sched (s : State) (g : Option Requester) : (s.withGrant g).sched = s.sched := rfl
@[simp] theorem State.withGrant_rail (s : State) (g : Option Requester) : (s.withGrant g).rail = s.rail := rfl
@[simp] theorem State.withGrant_gain (s : State) (g : Option Requester) : (s.withGrant g).gain = s.gain := rfl
@[simp] theorem State.withGrant_gates (s : State) (g : Option Requester) : (s.withGrant g).gates = s.gates := rfl
@[simp] theorem State.withGrant_coup (s : State) (g : Option Requester) : (s.withGrant g).coup = s.coup := rfl
@[simp] theorem State.withGrant_trk (s : State) (g : Option Requester) : (s.withGrant g).trk = s.trk := rfl
@[simp] theorem State.withGrant_conf (s : State) (g : Option Requester) : (s.withGrant g).conf = s.conf := rfl
@[simp] theorem State.withGrant_rep (s : State) (g : Option Requester) : (s.withGrant g).rep = s.rep := rfl
@[simp] theorem State.withGrant_mark (s : State) (g : Option Requester) : (s.withGrant g).mark = s.mark := rfl
@[simp] theorem State.withGrant_store (s : State) (g : Option Requester) : (s.withGrant g).store = { s.store with grant := g } := rfl
@[simp] theorem State.withGrant_link (s : State) (g : Option Requester) : (s.withGrant g).link = s.link := rfl
@[simp] theorem State.withGrant_pending (s : State) (g : Option Requester) : (s.withGrant g).pending = s.pending := rfl

@[simp] theorem State.setSched_strap (s : State) (f : Scheduler → Scheduler) : (s.setSched f).strap = s.strap := rfl
@[simp] theorem State.setSched_resetPin (s : State) (f : Scheduler → Scheduler) : (s.setSched f).resetPin = s.resetPin := rfl
@[simp] theorem State.setSched_odo (s : State) (f : Scheduler → Scheduler) : (s.setSched f).odo = s.odo := rfl
@[simp] theorem State.setSched_sched (s : State) (f : Scheduler → Scheduler) : (s.setSched f).sched = f s.sched := rfl
@[simp] theorem State.setSched_rail (s : State) (f : Scheduler → Scheduler) : (s.setSched f).rail = s.rail := rfl
@[simp] theorem State.setSched_gain (s : State) (f : Scheduler → Scheduler) : (s.setSched f).gain = s.gain := rfl
@[simp] theorem State.setSched_gates (s : State) (f : Scheduler → Scheduler) : (s.setSched f).gates = s.gates := rfl
@[simp] theorem State.setSched_coup (s : State) (f : Scheduler → Scheduler) : (s.setSched f).coup = s.coup := rfl
@[simp] theorem State.setSched_trk (s : State) (f : Scheduler → Scheduler) : (s.setSched f).trk = s.trk := rfl
@[simp] theorem State.setSched_conf (s : State) (f : Scheduler → Scheduler) : (s.setSched f).conf = s.conf := rfl
@[simp] theorem State.setSched_rep (s : State) (f : Scheduler → Scheduler) : (s.setSched f).rep = s.rep := rfl
@[simp] theorem State.setSched_mark (s : State) (f : Scheduler → Scheduler) : (s.setSched f).mark = s.mark := rfl
@[simp] theorem State.setSched_store (s : State) (f : Scheduler → Scheduler) : (s.setSched f).store = s.store := rfl
@[simp] theorem State.setSched_link (s : State) (f : Scheduler → Scheduler) : (s.setSched f).link = s.link := rfl
@[simp] theorem State.setSched_pending (s : State) (f : Scheduler → Scheduler) : (s.setSched f).pending = s.pending := rfl

@[simp] theorem State.setMark_strap (s : State) (f : MarkerUnit → MarkerUnit) : (s.setMark f).strap = s.strap := rfl
@[simp] theorem State.setMark_resetPin (s : State) (f : MarkerUnit → MarkerUnit) : (s.setMark f).resetPin = s.resetPin := rfl
@[simp] theorem State.setMark_odo (s : State) (f : MarkerUnit → MarkerUnit) : (s.setMark f).odo = s.odo := rfl
@[simp] theorem State.setMark_sched (s : State) (f : MarkerUnit → MarkerUnit) : (s.setMark f).sched = s.sched := rfl
@[simp] theorem State.setMark_rail (s : State) (f : MarkerUnit → MarkerUnit) : (s.setMark f).rail = s.rail := rfl
@[simp] theorem State.setMark_gain (s : State) (f : MarkerUnit → MarkerUnit) : (s.setMark f).gain = s.gain := rfl
@[simp] theorem State.setMark_gates (s : State) (f : MarkerUnit → MarkerUnit) : (s.setMark f).gates = s.gates := rfl
@[simp] theorem State.setMark_coup (s : State) (f : MarkerUnit → MarkerUnit) : (s.setMark f).coup = s.coup := rfl
@[simp] theorem State.setMark_trk (s : State) (f : MarkerUnit → MarkerUnit) : (s.setMark f).trk = s.trk := rfl
@[simp] theorem State.setMark_conf (s : State) (f : MarkerUnit → MarkerUnit) : (s.setMark f).conf = s.conf := rfl
@[simp] theorem State.setMark_rep (s : State) (f : MarkerUnit → MarkerUnit) : (s.setMark f).rep = s.rep := rfl
@[simp] theorem State.setMark_mark (s : State) (f : MarkerUnit → MarkerUnit) : (s.setMark f).mark = f s.mark := rfl
@[simp] theorem State.setMark_store (s : State) (f : MarkerUnit → MarkerUnit) : (s.setMark f).store = s.store := rfl
@[simp] theorem State.setMark_link (s : State) (f : MarkerUnit → MarkerUnit) : (s.setMark f).link = s.link := rfl
@[simp] theorem State.setMark_pending (s : State) (f : MarkerUnit → MarkerUnit) : (s.setMark f).pending = s.pending := rfl

@[simp] theorem State.setLink_strap (s : State) (f : LinkUnit → LinkUnit) : (s.setLink f).strap = s.strap := rfl
@[simp] theorem State.setLink_resetPin (s : State) (f : LinkUnit → LinkUnit) : (s.setLink f).resetPin = s.resetPin := rfl
@[simp] theorem State.setLink_odo (s : State) (f : LinkUnit → LinkUnit) : (s.setLink f).odo = s.odo := rfl
@[simp] theorem State.setLink_sched (s : State) (f : LinkUnit → LinkUnit) : (s.setLink f).sched = s.sched := rfl
@[simp] theorem State.setLink_rail (s : State) (f : LinkUnit → LinkUnit) : (s.setLink f).rail = s.rail := rfl
@[simp] theorem State.setLink_gain (s : State) (f : LinkUnit → LinkUnit) : (s.setLink f).gain = s.gain := rfl
@[simp] theorem State.setLink_gates (s : State) (f : LinkUnit → LinkUnit) : (s.setLink f).gates = s.gates := rfl
@[simp] theorem State.setLink_coup (s : State) (f : LinkUnit → LinkUnit) : (s.setLink f).coup = s.coup := rfl
@[simp] theorem State.setLink_trk (s : State) (f : LinkUnit → LinkUnit) : (s.setLink f).trk = s.trk := rfl
@[simp] theorem State.setLink_conf (s : State) (f : LinkUnit → LinkUnit) : (s.setLink f).conf = s.conf := rfl
@[simp] theorem State.setLink_rep (s : State) (f : LinkUnit → LinkUnit) : (s.setLink f).rep = s.rep := rfl
@[simp] theorem State.setLink_mark (s : State) (f : LinkUnit → LinkUnit) : (s.setLink f).mark = s.mark := rfl
@[simp] theorem State.setLink_store (s : State) (f : LinkUnit → LinkUnit) : (s.setLink f).store = s.store := rfl
@[simp] theorem State.setLink_link (s : State) (f : LinkUnit → LinkUnit) : (s.setLink f).link = f s.link := rfl
@[simp] theorem State.setLink_pending (s : State) (f : LinkUnit → LinkUnit) : (s.setLink f).pending = s.pending := rfl

@[simp] theorem State.setStore_strap (s : State) (f : StoreUnit → StoreUnit) : (s.setStore f).strap = s.strap := rfl
@[simp] theorem State.setStore_resetPin (s : State) (f : StoreUnit → StoreUnit) : (s.setStore f).resetPin = s.resetPin := rfl
@[simp] theorem State.setStore_odo (s : State) (f : StoreUnit → StoreUnit) : (s.setStore f).odo = s.odo := rfl
@[simp] theorem State.setStore_sched (s : State) (f : StoreUnit → StoreUnit) : (s.setStore f).sched = s.sched := rfl
@[simp] theorem State.setStore_rail (s : State) (f : StoreUnit → StoreUnit) : (s.setStore f).rail = s.rail := rfl
@[simp] theorem State.setStore_gain (s : State) (f : StoreUnit → StoreUnit) : (s.setStore f).gain = s.gain := rfl
@[simp] theorem State.setStore_gates (s : State) (f : StoreUnit → StoreUnit) : (s.setStore f).gates = s.gates := rfl
@[simp] theorem State.setStore_coup (s : State) (f : StoreUnit → StoreUnit) : (s.setStore f).coup = s.coup := rfl
@[simp] theorem State.setStore_trk (s : State) (f : StoreUnit → StoreUnit) : (s.setStore f).trk = s.trk := rfl
@[simp] theorem State.setStore_conf (s : State) (f : StoreUnit → StoreUnit) : (s.setStore f).conf = s.conf := rfl
@[simp] theorem State.setStore_rep (s : State) (f : StoreUnit → StoreUnit) : (s.setStore f).rep = s.rep := rfl
@[simp] theorem State.setStore_mark (s : State) (f : StoreUnit → StoreUnit) : (s.setStore f).mark = s.mark := rfl
@[simp] theorem State.setStore_store (s : State) (f : StoreUnit → StoreUnit) : (s.setStore f).store = f s.store := rfl
@[simp] theorem State.setStore_link (s : State) (f : StoreUnit → StoreUnit) : (s.setStore f).link = s.link := rfl
@[simp] theorem State.setStore_pending (s : State) (f : StoreUnit → StoreUnit) : (s.setStore f).pending = s.pending := rfl

@[simp] theorem State.count_strap (f : Counts → Counts) (s : State) : (s.count f).strap = s.strap := rfl
@[simp] theorem State.count_resetPin (f : Counts → Counts) (s : State) : (s.count f).resetPin = s.resetPin := rfl
@[simp] theorem State.count_odo (f : Counts → Counts) (s : State) : (s.count f).odo = s.odo := rfl
@[simp] theorem State.count_sched (f : Counts → Counts) (s : State) : (s.count f).sched = s.sched := rfl
@[simp] theorem State.count_rail (f : Counts → Counts) (s : State) : (s.count f).rail = s.rail := rfl
@[simp] theorem State.count_gain (f : Counts → Counts) (s : State) : (s.count f).gain = s.gain := rfl
@[simp] theorem State.count_gates (f : Counts → Counts) (s : State) : (s.count f).gates = s.gates := rfl
@[simp] theorem State.count_coup (f : Counts → Counts) (s : State) : (s.count f).coup = s.coup := rfl
@[simp] theorem State.count_trk (f : Counts → Counts) (s : State) : (s.count f).trk = s.trk := rfl
@[simp] theorem State.count_conf (f : Counts → Counts) (s : State) : (s.count f).conf = s.conf := rfl
@[simp] theorem State.count_rep (f : Counts → Counts) (s : State) : (s.count f).rep = s.rep := rfl
@[simp] theorem State.count_mark (f : Counts → Counts) (s : State) : (s.count f).mark = s.mark := rfl
@[simp] theorem State.count_store (f : Counts → Counts) (s : State) : (s.count f).store = s.store := rfl
@[simp] theorem State.count_link (f : Counts → Counts) (s : State) : (s.count f).link = { s.link with counts := f s.link.counts } := rfl
@[simp] theorem State.count_pending (f : Counts → Counts) (s : State) : (s.count f).pending = s.pending := rfl

@[simp] theorem setGap_strap (n : Slot) (c : GapCause) (g : Option Gap) (s : State) : (setGap n c g s).strap = s.strap := rfl
@[simp] theorem setGap_resetPin (n : Slot) (c : GapCause) (g : Option Gap) (s : State) : (setGap n c g s).resetPin = s.resetPin := rfl
@[simp] theorem setGap_odo (n : Slot) (c : GapCause) (g : Option Gap) (s : State) : (setGap n c g s).odo = s.odo := rfl
@[simp] theorem setGap_sched (n : Slot) (c : GapCause) (g : Option Gap) (s : State) : (setGap n c g s).sched = s.sched := rfl
@[simp] theorem setGap_rail (n : Slot) (c : GapCause) (g : Option Gap) (s : State) : (setGap n c g s).rail = s.rail := rfl
@[simp] theorem setGap_gain (n : Slot) (c : GapCause) (g : Option Gap) (s : State) : (setGap n c g s).gain = s.gain := rfl
@[simp] theorem setGap_gates (n : Slot) (c : GapCause) (g : Option Gap) (s : State) : (setGap n c g s).gates = s.gates := rfl
@[simp] theorem setGap_coup (n : Slot) (c : GapCause) (g : Option Gap) (s : State) : (setGap n c g s).coup = { s.coup with gaps := put s.coup.gaps n ((s.coup.gaps[n]).set c g) } := rfl
@[simp] theorem setGap_trk (n : Slot) (c : GapCause) (g : Option Gap) (s : State) : (setGap n c g s).trk = s.trk := rfl
@[simp] theorem setGap_conf (n : Slot) (c : GapCause) (g : Option Gap) (s : State) : (setGap n c g s).conf = s.conf := rfl
@[simp] theorem setGap_rep (n : Slot) (c : GapCause) (g : Option Gap) (s : State) : (setGap n c g s).rep = s.rep := rfl
@[simp] theorem setGap_mark (n : Slot) (c : GapCause) (g : Option Gap) (s : State) : (setGap n c g s).mark = s.mark := rfl
@[simp] theorem setGap_store (n : Slot) (c : GapCause) (g : Option Gap) (s : State) : (setGap n c g s).store = s.store := rfl
@[simp] theorem setGap_link (n : Slot) (c : GapCause) (g : Option Gap) (s : State) : (setGap n c g s).link = s.link := rfl
@[simp] theorem setGap_pending (n : Slot) (c : GapCause) (g : Option Gap) (s : State) : (setGap n c g s).pending = s.pending := rfl

@[simp] theorem setCoupling_strap (n : Slot) (c : SlotCoupling) (s : State) : (setCoupling n c s).strap = s.strap := rfl
@[simp] theorem setCoupling_resetPin (n : Slot) (c : SlotCoupling) (s : State) : (setCoupling n c s).resetPin = s.resetPin := rfl
@[simp] theorem setCoupling_odo (n : Slot) (c : SlotCoupling) (s : State) : (setCoupling n c s).odo = s.odo := rfl
@[simp] theorem setCoupling_sched (n : Slot) (c : SlotCoupling) (s : State) : (setCoupling n c s).sched = s.sched := rfl
@[simp] theorem setCoupling_rail (n : Slot) (c : SlotCoupling) (s : State) : (setCoupling n c s).rail = s.rail := rfl
@[simp] theorem setCoupling_gain (n : Slot) (c : SlotCoupling) (s : State) : (setCoupling n c s).gain = s.gain := rfl
@[simp] theorem setCoupling_gates (n : Slot) (c : SlotCoupling) (s : State) : (setCoupling n c s).gates = s.gates := rfl
@[simp] theorem setCoupling_coup (n : Slot) (c : SlotCoupling) (s : State) : (setCoupling n c s).coup = { s.coup with slots := put s.coup.slots n c } := rfl
@[simp] theorem setCoupling_trk (n : Slot) (c : SlotCoupling) (s : State) : (setCoupling n c s).trk = s.trk := rfl
@[simp] theorem setCoupling_conf (n : Slot) (c : SlotCoupling) (s : State) : (setCoupling n c s).conf = s.conf := rfl
@[simp] theorem setCoupling_rep (n : Slot) (c : SlotCoupling) (s : State) : (setCoupling n c s).rep = s.rep := rfl
@[simp] theorem setCoupling_mark (n : Slot) (c : SlotCoupling) (s : State) : (setCoupling n c s).mark = s.mark := rfl
@[simp] theorem setCoupling_store (n : Slot) (c : SlotCoupling) (s : State) : (setCoupling n c s).store = s.store := rfl
@[simp] theorem setCoupling_link (n : Slot) (c : SlotCoupling) (s : State) : (setCoupling n c s).link = s.link := rfl
@[simp] theorem setCoupling_pending (n : Slot) (c : SlotCoupling) (s : State) : (setCoupling n c s).pending = s.pending := rfl

@[simp] theorem setUntold_strap (n : Slot) (c : GapCause) (b : Bool) (s : State) : (setUntold n c b s).strap = s.strap := rfl
@[simp] theorem setUntold_resetPin (n : Slot) (c : GapCause) (b : Bool) (s : State) : (setUntold n c b s).resetPin = s.resetPin := rfl
@[simp] theorem setUntold_odo (n : Slot) (c : GapCause) (b : Bool) (s : State) : (setUntold n c b s).odo = s.odo := rfl
@[simp] theorem setUntold_sched (n : Slot) (c : GapCause) (b : Bool) (s : State) : (setUntold n c b s).sched = s.sched := rfl
@[simp] theorem setUntold_rail (n : Slot) (c : GapCause) (b : Bool) (s : State) : (setUntold n c b s).rail = s.rail := rfl
@[simp] theorem setUntold_gain (n : Slot) (c : GapCause) (b : Bool) (s : State) : (setUntold n c b s).gain = s.gain := rfl
@[simp] theorem setUntold_gates (n : Slot) (c : GapCause) (b : Bool) (s : State) : (setUntold n c b s).gates = s.gates := rfl
@[simp] theorem setUntold_coup (n : Slot) (c : GapCause) (b : Bool) (s : State) : (setUntold n c b s).coup = s.coup := rfl
@[simp] theorem setUntold_trk (n : Slot) (c : GapCause) (b : Bool) (s : State) : (setUntold n c b s).trk = s.trk := rfl
@[simp] theorem setUntold_conf (n : Slot) (c : GapCause) (b : Bool) (s : State) : (setUntold n c b s).conf = s.conf := rfl
@[simp] theorem setUntold_rep (n : Slot) (c : GapCause) (b : Bool) (s : State) : (setUntold n c b s).rep = s.rep := rfl
@[simp] theorem setUntold_mark (n : Slot) (c : GapCause) (b : Bool) (s : State) : (setUntold n c b s).mark = s.mark := rfl
@[simp] theorem setUntold_store (n : Slot) (c : GapCause) (b : Bool) (s : State) : (setUntold n c b s).store = s.store := rfl
@[simp] theorem setUntold_link (n : Slot) (c : GapCause) (b : Bool) (s : State) : (setUntold n c b s).link = { s.link with untold := put s.link.untold n ((s.link.untold[n]).set c b) } := rfl
@[simp] theorem setUntold_pending (n : Slot) (c : GapCause) (b : Bool) (s : State) : (setUntold n c b s).pending = s.pending := rfl

@[simp] theorem setConf_strap (l : List (Placed ConfEntry)) (s : State) : (setConf l s).strap = s.strap := rfl
@[simp] theorem setConf_resetPin (l : List (Placed ConfEntry)) (s : State) : (setConf l s).resetPin = s.resetPin := rfl
@[simp] theorem setConf_odo (l : List (Placed ConfEntry)) (s : State) : (setConf l s).odo = s.odo := rfl
@[simp] theorem setConf_sched (l : List (Placed ConfEntry)) (s : State) : (setConf l s).sched = s.sched := rfl
@[simp] theorem setConf_rail (l : List (Placed ConfEntry)) (s : State) : (setConf l s).rail = s.rail := rfl
@[simp] theorem setConf_gain (l : List (Placed ConfEntry)) (s : State) : (setConf l s).gain = s.gain := rfl
@[simp] theorem setConf_gates (l : List (Placed ConfEntry)) (s : State) : (setConf l s).gates = s.gates := rfl
@[simp] theorem setConf_coup (l : List (Placed ConfEntry)) (s : State) : (setConf l s).coup = s.coup := rfl
@[simp] theorem setConf_trk (l : List (Placed ConfEntry)) (s : State) : (setConf l s).trk = s.trk := rfl
@[simp] theorem setConf_conf (l : List (Placed ConfEntry)) (s : State) : (setConf l s).conf = { s.conf with list := l } := rfl
@[simp] theorem setConf_rep (l : List (Placed ConfEntry)) (s : State) : (setConf l s).rep = s.rep := rfl
@[simp] theorem setConf_mark (l : List (Placed ConfEntry)) (s : State) : (setConf l s).mark = s.mark := rfl
@[simp] theorem setConf_store (l : List (Placed ConfEntry)) (s : State) : (setConf l s).store = s.store := rfl
@[simp] theorem setConf_link (l : List (Placed ConfEntry)) (s : State) : (setConf l s).link = s.link := rfl
@[simp] theorem setConf_pending (l : List (Placed ConfEntry)) (s : State) : (setConf l s).pending = s.pending := rfl

@[simp] theorem setZones_strap (l : List (Placed Zone)) (s : State) : (setZones l s).strap = s.strap := rfl
@[simp] theorem setZones_resetPin (l : List (Placed Zone)) (s : State) : (setZones l s).resetPin = s.resetPin := rfl
@[simp] theorem setZones_odo (l : List (Placed Zone)) (s : State) : (setZones l s).odo = s.odo := rfl
@[simp] theorem setZones_sched (l : List (Placed Zone)) (s : State) : (setZones l s).sched = s.sched := rfl
@[simp] theorem setZones_rail (l : List (Placed Zone)) (s : State) : (setZones l s).rail = s.rail := rfl
@[simp] theorem setZones_gain (l : List (Placed Zone)) (s : State) : (setZones l s).gain = s.gain := rfl
@[simp] theorem setZones_gates (l : List (Placed Zone)) (s : State) : (setZones l s).gates = s.gates := rfl
@[simp] theorem setZones_coup (l : List (Placed Zone)) (s : State) : (setZones l s).coup = s.coup := rfl
@[simp] theorem setZones_trk (l : List (Placed Zone)) (s : State) : (setZones l s).trk = s.trk := rfl
@[simp] theorem setZones_conf (l : List (Placed Zone)) (s : State) : (setZones l s).conf = { s.conf with zones := l } := rfl
@[simp] theorem setZones_rep (l : List (Placed Zone)) (s : State) : (setZones l s).rep = s.rep := rfl
@[simp] theorem setZones_mark (l : List (Placed Zone)) (s : State) : (setZones l s).mark = s.mark := rfl
@[simp] theorem setZones_store (l : List (Placed Zone)) (s : State) : (setZones l s).store = s.store := rfl
@[simp] theorem setZones_link (l : List (Placed Zone)) (s : State) : (setZones l s).link = s.link := rfl
@[simp] theorem setZones_pending (l : List (Placed Zone)) (s : State) : (setZones l s).pending = s.pending := rfl

@[simp] theorem setRecords_strap (l : List (Placed IndicationRecord)) (s : State) : (setRecords l s).strap = s.strap := rfl
@[simp] theorem setRecords_resetPin (l : List (Placed IndicationRecord)) (s : State) : (setRecords l s).resetPin = s.resetPin := rfl
@[simp] theorem setRecords_odo (l : List (Placed IndicationRecord)) (s : State) : (setRecords l s).odo = s.odo := rfl
@[simp] theorem setRecords_sched (l : List (Placed IndicationRecord)) (s : State) : (setRecords l s).sched = s.sched := rfl
@[simp] theorem setRecords_rail (l : List (Placed IndicationRecord)) (s : State) : (setRecords l s).rail = s.rail := rfl
@[simp] theorem setRecords_gain (l : List (Placed IndicationRecord)) (s : State) : (setRecords l s).gain = s.gain := rfl
@[simp] theorem setRecords_gates (l : List (Placed IndicationRecord)) (s : State) : (setRecords l s).gates = s.gates := rfl
@[simp] theorem setRecords_coup (l : List (Placed IndicationRecord)) (s : State) : (setRecords l s).coup = s.coup := rfl
@[simp] theorem setRecords_trk (l : List (Placed IndicationRecord)) (s : State) : (setRecords l s).trk = s.trk := rfl
@[simp] theorem setRecords_conf (l : List (Placed IndicationRecord)) (s : State) : (setRecords l s).conf = s.conf := rfl
@[simp] theorem setRecords_rep (l : List (Placed IndicationRecord)) (s : State) : (setRecords l s).rep = { s.rep with records := l } := rfl
@[simp] theorem setRecords_mark (l : List (Placed IndicationRecord)) (s : State) : (setRecords l s).mark = s.mark := rfl
@[simp] theorem setRecords_store (l : List (Placed IndicationRecord)) (s : State) : (setRecords l s).store = s.store := rfl
@[simp] theorem setRecords_link (l : List (Placed IndicationRecord)) (s : State) : (setRecords l s).link = s.link := rfl
@[simp] theorem setRecords_pending (l : List (Placed IndicationRecord)) (s : State) : (setRecords l s).pending = s.pending := rfl

@[simp] theorem setFlat_strap (n : Slot) (m : FlatGain) (s : State) : (setFlat n m s).strap = s.strap := rfl
@[simp] theorem setFlat_resetPin (n : Slot) (m : FlatGain) (s : State) : (setFlat n m s).resetPin = s.resetPin := rfl
@[simp] theorem setFlat_odo (n : Slot) (m : FlatGain) (s : State) : (setFlat n m s).odo = s.odo := rfl
@[simp] theorem setFlat_sched (n : Slot) (m : FlatGain) (s : State) : (setFlat n m s).sched = s.sched := rfl
@[simp] theorem setFlat_rail (n : Slot) (m : FlatGain) (s : State) : (setFlat n m s).rail = s.rail := rfl
@[simp] theorem setFlat_gain (n : Slot) (m : FlatGain) (s : State) : (setFlat n m s).gain = { s.gain with flat := put s.gain.flat n m } := rfl
@[simp] theorem setFlat_gates (n : Slot) (m : FlatGain) (s : State) : (setFlat n m s).gates = s.gates := rfl
@[simp] theorem setFlat_coup (n : Slot) (m : FlatGain) (s : State) : (setFlat n m s).coup = s.coup := rfl
@[simp] theorem setFlat_trk (n : Slot) (m : FlatGain) (s : State) : (setFlat n m s).trk = s.trk := rfl
@[simp] theorem setFlat_conf (n : Slot) (m : FlatGain) (s : State) : (setFlat n m s).conf = s.conf := rfl
@[simp] theorem setFlat_rep (n : Slot) (m : FlatGain) (s : State) : (setFlat n m s).rep = s.rep := rfl
@[simp] theorem setFlat_mark (n : Slot) (m : FlatGain) (s : State) : (setFlat n m s).mark = s.mark := rfl
@[simp] theorem setFlat_store (n : Slot) (m : FlatGain) (s : State) : (setFlat n m s).store = s.store := rfl
@[simp] theorem setFlat_link (n : Slot) (m : FlatGain) (s : State) : (setFlat n m s).link = s.link := rfl
@[simp] theorem setFlat_pending (n : Slot) (m : FlatGain) (s : State) : (setFlat n m s).pending = s.pending := rfl

@[simp] theorem raiseTogether_strap (rs : List ShotReq) (s : State) : (raiseTogether rs s).strap = s.strap := rfl
@[simp] theorem raiseTogether_resetPin (rs : List ShotReq) (s : State) : (raiseTogether rs s).resetPin = s.resetPin := rfl
@[simp] theorem raiseTogether_odo (rs : List ShotReq) (s : State) : (raiseTogether rs s).odo = s.odo := rfl
@[simp] theorem raiseTogether_sched (rs : List ShotReq) (s : State) : (raiseTogether rs s).sched = s.sched := rfl
@[simp] theorem raiseTogether_rail (rs : List ShotReq) (s : State) : (raiseTogether rs s).rail = s.rail := rfl
@[simp] theorem raiseTogether_gain (rs : List ShotReq) (s : State) : (raiseTogether rs s).gain = s.gain := rfl
@[simp] theorem raiseTogether_gates (rs : List ShotReq) (s : State) : (raiseTogether rs s).gates = s.gates := rfl
@[simp] theorem raiseTogether_coup (rs : List ShotReq) (s : State) : (raiseTogether rs s).coup = s.coup := rfl
@[simp] theorem raiseTogether_trk (rs : List ShotReq) (s : State) : (raiseTogether rs s).trk = s.trk := rfl
@[simp] theorem raiseTogether_conf (rs : List ShotReq) (s : State) : (raiseTogether rs s).conf = s.conf := rfl
@[simp] theorem raiseTogether_rep (rs : List ShotReq) (s : State) : (raiseTogether rs s).rep = s.rep := rfl
@[simp] theorem raiseTogether_mark (rs : List ShotReq) (s : State) : (raiseTogether rs s).mark = s.mark := rfl
@[simp] theorem raiseTogether_store (rs : List ShotReq) (s : State) : (raiseTogether rs s).store = { s.store with shotReqs := s.store.shotReqs ++ [rs] } := rfl
@[simp] theorem raiseTogether_link (rs : List ShotReq) (s : State) : (raiseTogether rs s).link = s.link := rfl
@[simp] theorem raiseTogether_pending (rs : List ShotReq) (s : State) : (raiseTogether rs s).pending = s.pending := rfl

@[simp] theorem raise_strap (r : ShotReq) (s : State) : (raise r s).strap = s.strap := rfl
@[simp] theorem raise_resetPin (r : ShotReq) (s : State) : (raise r s).resetPin = s.resetPin := rfl
@[simp] theorem raise_odo (r : ShotReq) (s : State) : (raise r s).odo = s.odo := rfl
@[simp] theorem raise_sched (r : ShotReq) (s : State) : (raise r s).sched = s.sched := rfl
@[simp] theorem raise_rail (r : ShotReq) (s : State) : (raise r s).rail = s.rail := rfl
@[simp] theorem raise_gain (r : ShotReq) (s : State) : (raise r s).gain = s.gain := rfl
@[simp] theorem raise_gates (r : ShotReq) (s : State) : (raise r s).gates = s.gates := rfl
@[simp] theorem raise_coup (r : ShotReq) (s : State) : (raise r s).coup = s.coup := rfl
@[simp] theorem raise_trk (r : ShotReq) (s : State) : (raise r s).trk = s.trk := rfl
@[simp] theorem raise_conf (r : ShotReq) (s : State) : (raise r s).conf = s.conf := rfl
@[simp] theorem raise_rep (r : ShotReq) (s : State) : (raise r s).rep = s.rep := rfl
@[simp] theorem raise_mark (r : ShotReq) (s : State) : (raise r s).mark = s.mark := rfl
@[simp] theorem raise_store (r : ShotReq) (s : State) : (raise r s).store = { s.store with shotReqs := s.store.shotReqs ++ [[r]] } := rfl
@[simp] theorem raise_link (r : ShotReq) (s : State) : (raise r s).link = s.link := rfl
@[simp] theorem raise_pending (r : ShotReq) (s : State) : (raise r s).pending = s.pending := rfl

@[simp] theorem raiseRx_strap (r : RxReq) (s : State) : (raiseRx r s).strap = s.strap := rfl
@[simp] theorem raiseRx_resetPin (r : RxReq) (s : State) : (raiseRx r s).resetPin = s.resetPin := rfl
@[simp] theorem raiseRx_odo (r : RxReq) (s : State) : (raiseRx r s).odo = s.odo := rfl
@[simp] theorem raiseRx_sched (r : RxReq) (s : State) : (raiseRx r s).sched = s.sched := rfl
@[simp] theorem raiseRx_rail (r : RxReq) (s : State) : (raiseRx r s).rail = s.rail := rfl
@[simp] theorem raiseRx_gain (r : RxReq) (s : State) : (raiseRx r s).gain = s.gain := rfl
@[simp] theorem raiseRx_gates (r : RxReq) (s : State) : (raiseRx r s).gates = s.gates := rfl
@[simp] theorem raiseRx_coup (r : RxReq) (s : State) : (raiseRx r s).coup = s.coup := rfl
@[simp] theorem raiseRx_trk (r : RxReq) (s : State) : (raiseRx r s).trk = s.trk := rfl
@[simp] theorem raiseRx_conf (r : RxReq) (s : State) : (raiseRx r s).conf = s.conf := rfl
@[simp] theorem raiseRx_rep (r : RxReq) (s : State) : (raiseRx r s).rep = s.rep := rfl
@[simp] theorem raiseRx_mark (r : RxReq) (s : State) : (raiseRx r s).mark = s.mark := rfl
@[simp] theorem raiseRx_store (r : RxReq) (s : State) : (raiseRx r s).store = { s.store with rxReqs := s.store.rxReqs ++ [r] } := rfl
@[simp] theorem raiseRx_link (r : RxReq) (s : State) : (raiseRx r s).link = s.link := rfl
@[simp] theorem raiseRx_pending (r : RxReq) (s : State) : (raiseRx r s).pending = s.pending := rfl

@[simp] theorem raiseTx_strap (r : TxReq) (s : State) : (raiseTx r s).strap = s.strap := rfl
@[simp] theorem raiseTx_resetPin (r : TxReq) (s : State) : (raiseTx r s).resetPin = s.resetPin := rfl
@[simp] theorem raiseTx_odo (r : TxReq) (s : State) : (raiseTx r s).odo = s.odo := rfl
@[simp] theorem raiseTx_sched (r : TxReq) (s : State) : (raiseTx r s).sched = s.sched := rfl
@[simp] theorem raiseTx_rail (r : TxReq) (s : State) : (raiseTx r s).rail = s.rail := rfl
@[simp] theorem raiseTx_gain (r : TxReq) (s : State) : (raiseTx r s).gain = s.gain := rfl
@[simp] theorem raiseTx_gates (r : TxReq) (s : State) : (raiseTx r s).gates = s.gates := rfl
@[simp] theorem raiseTx_coup (r : TxReq) (s : State) : (raiseTx r s).coup = s.coup := rfl
@[simp] theorem raiseTx_trk (r : TxReq) (s : State) : (raiseTx r s).trk = s.trk := rfl
@[simp] theorem raiseTx_conf (r : TxReq) (s : State) : (raiseTx r s).conf = s.conf := rfl
@[simp] theorem raiseTx_rep (r : TxReq) (s : State) : (raiseTx r s).rep = s.rep := rfl
@[simp] theorem raiseTx_mark (r : TxReq) (s : State) : (raiseTx r s).mark = s.mark := rfl
@[simp] theorem raiseTx_store (r : TxReq) (s : State) : (raiseTx r s).store = { s.store with txReqs := s.store.txReqs ++ [r] } := rfl
@[simp] theorem raiseTx_link (r : TxReq) (s : State) : (raiseTx r s).link = s.link := rfl
@[simp] theorem raiseTx_pending (r : TxReq) (s : State) : (raiseTx r s).pending = s.pending := rfl

@[simp] theorem setRun_strap (r : RunState) (s : State) : (setRun r s).strap = s.strap := rfl
@[simp] theorem setRun_resetPin (r : RunState) (s : State) : (setRun r s).resetPin = s.resetPin := rfl
@[simp] theorem setRun_odo (r : RunState) (s : State) : (setRun r s).odo = s.odo := rfl
@[simp] theorem setRun_sched (r : RunState) (s : State) : (setRun r s).sched = s.sched := rfl
@[simp] theorem setRun_rail (r : RunState) (s : State) : (setRun r s).rail = s.rail := rfl
@[simp] theorem setRun_gain (r : RunState) (s : State) : (setRun r s).gain = s.gain := rfl
@[simp] theorem setRun_gates (r : RunState) (s : State) : (setRun r s).gates = s.gates := rfl
@[simp] theorem setRun_coup (r : RunState) (s : State) : (setRun r s).coup = s.coup := rfl
@[simp] theorem setRun_trk (r : RunState) (s : State) : (setRun r s).trk = s.trk := rfl
@[simp] theorem setRun_conf (r : RunState) (s : State) : (setRun r s).conf = s.conf := rfl
@[simp] theorem setRun_rep (r : RunState) (s : State) : (setRun r s).rep = s.rep := rfl
@[simp] theorem setRun_mark (r : RunState) (s : State) : (setRun r s).mark = s.mark := rfl
@[simp] theorem setRun_store (r : RunState) (s : State) : (setRun r s).store = s.store := rfl
@[simp] theorem setRun_link (r : RunState) (s : State) : (setRun r s).link = { s.link with run := r, statusDue := true, stepCount := 0, statusTimer := timerAt s.link.run r s.link.statusTimer } := rfl
@[simp] theorem setRun_pending (r : RunState) (s : State) : (setRun r s).pending = s.pending := rfl

@[simp] theorem toIdleWait_strap (s : State) : (toIdleWait s).strap = s.strap := rfl
@[simp] theorem toIdleWait_resetPin (s : State) : (toIdleWait s).resetPin = s.resetPin := rfl
@[simp] theorem toIdleWait_odo (s : State) : (toIdleWait s).odo = s.odo := rfl
@[simp] theorem toIdleWait_sched (s : State) : (toIdleWait s).sched = s.sched := rfl
@[simp] theorem toIdleWait_rail (s : State) : (toIdleWait s).rail = s.rail := rfl
@[simp] theorem toIdleWait_gain (s : State) : (toIdleWait s).gain = s.gain := rfl
@[simp] theorem toIdleWait_gates (s : State) : (toIdleWait s).gates = s.gates := rfl
@[simp] theorem toIdleWait_coup (s : State) : (toIdleWait s).coup = s.coup := rfl
@[simp] theorem toIdleWait_trk (s : State) : (toIdleWait s).trk = s.trk := rfl
@[simp] theorem toIdleWait_conf (s : State) : (toIdleWait s).conf = s.conf := rfl
@[simp] theorem toIdleWait_rep (s : State) : (toIdleWait s).rep = s.rep := rfl
@[simp] theorem toIdleWait_mark (s : State) : (toIdleWait s).mark = s.mark := rfl
@[simp] theorem toIdleWait_store (s : State) : (toIdleWait s).store = s.store := rfl
@[simp] theorem toIdleWait_link (s : State) : (toIdleWait s).link = { s.link with access := .idleWait, wait := some (idleWait s.link.holdOff) } := rfl
@[simp] theorem toIdleWait_pending (s : State) : (toIdleWait s).pending = s.pending := rfl

@[simp] theorem grantTo_strap (g : Requester) (s : State) : (grantTo g s).strap = s.strap := rfl
@[simp] theorem grantTo_resetPin (g : Requester) (s : State) : (grantTo g s).resetPin = s.resetPin := rfl
@[simp] theorem grantTo_odo (g : Requester) (s : State) : (grantTo g s).odo = s.odo := rfl
@[simp] theorem grantTo_sched (g : Requester) (s : State) : (grantTo g s).sched = s.sched := rfl
@[simp] theorem grantTo_rail (g : Requester) (s : State) : (grantTo g s).rail = s.rail := rfl
@[simp] theorem grantTo_gain (g : Requester) (s : State) : (grantTo g s).gain = s.gain := rfl
@[simp] theorem grantTo_gates (g : Requester) (s : State) : (grantTo g s).gates = s.gates := rfl
@[simp] theorem grantTo_coup (g : Requester) (s : State) : (grantTo g s).coup = s.coup := rfl
@[simp] theorem grantTo_trk (g : Requester) (s : State) : (grantTo g s).trk = s.trk := rfl
@[simp] theorem grantTo_conf (g : Requester) (s : State) : (grantTo g s).conf = s.conf := rfl
@[simp] theorem grantTo_rep (g : Requester) (s : State) : (grantTo g s).rep = s.rep := rfl
@[simp] theorem grantTo_mark (g : Requester) (s : State) : (grantTo g s).mark = s.mark := rfl
@[simp] theorem grantTo_store (g : Requester) (s : State) :
    (grantTo g s).store = { s.store with
      grant := some g, grantRun := s.link.run, grantShots := s.store.shotReqs.length,
      scrubReq := s.store.scrubReq && g != .scrubber } := rfl
@[simp] theorem grantTo_link (g : Requester) (s : State) : (grantTo g s).link = s.link := rfl
@[simp] theorem grantTo_pending (g : Requester) (s : State) : (grantTo g s).pending = s.pending := rfl

@[simp] theorem setDamaged_strap (v : Vector Bool 12) (s : State) : (setDamaged v s).strap = s.strap := rfl
@[simp] theorem setDamaged_resetPin (v : Vector Bool 12) (s : State) : (setDamaged v s).resetPin = s.resetPin := rfl
@[simp] theorem setDamaged_odo (v : Vector Bool 12) (s : State) : (setDamaged v s).odo = s.odo := rfl
@[simp] theorem setDamaged_sched (v : Vector Bool 12) (s : State) :
    (setDamaged v s).sched = { s.sched with storeDamaged := v } := rfl
@[simp] theorem setDamaged_rail (v : Vector Bool 12) (s : State) : (setDamaged v s).rail = s.rail := rfl
@[simp] theorem setDamaged_gain (v : Vector Bool 12) (s : State) : (setDamaged v s).gain = s.gain := rfl
@[simp] theorem setDamaged_gates (v : Vector Bool 12) (s : State) : (setDamaged v s).gates = s.gates := rfl
@[simp] theorem setDamaged_coup (v : Vector Bool 12) (s : State) : (setDamaged v s).coup = s.coup := rfl
@[simp] theorem setDamaged_trk (v : Vector Bool 12) (s : State) : (setDamaged v s).trk = s.trk := rfl
@[simp] theorem setDamaged_conf (v : Vector Bool 12) (s : State) : (setDamaged v s).conf = s.conf := rfl
@[simp] theorem setDamaged_rep (v : Vector Bool 12) (s : State) : (setDamaged v s).rep = s.rep := rfl
@[simp] theorem setDamaged_mark (v : Vector Bool 12) (s : State) : (setDamaged v s).mark = s.mark := rfl
@[simp] theorem setDamaged_store (v : Vector Bool 12) (s : State) : (setDamaged v s).store = s.store := rfl
@[simp] theorem setDamaged_link (v : Vector Bool 12) (s : State) : (setDamaged v s).link = s.link := rfl
@[simp] theorem setDamaged_pending (v : Vector Bool 12) (s : State) : (setDamaged v s).pending = s.pending := rfl

@[simp] theorem setSource_strap (n : Slot) (c : CouplingSource) (s : State) : (setSource n c s).strap = s.strap := rfl
@[simp] theorem setSource_resetPin (n : Slot) (c : CouplingSource) (s : State) : (setSource n c s).resetPin = s.resetPin := rfl
@[simp] theorem setSource_odo (n : Slot) (c : CouplingSource) (s : State) : (setSource n c s).odo = s.odo := rfl
@[simp] theorem setSource_sched (n : Slot) (c : CouplingSource) (s : State) : (setSource n c s).sched = s.sched := rfl
@[simp] theorem setSource_rail (n : Slot) (c : CouplingSource) (s : State) : (setSource n c s).rail = s.rail := rfl
@[simp] theorem setSource_gain (n : Slot) (c : CouplingSource) (s : State) : (setSource n c s).gain = s.gain := rfl
@[simp] theorem setSource_gates (n : Slot) (c : CouplingSource) (s : State) : (setSource n c s).gates = s.gates := rfl
@[simp] theorem setSource_coup (n : Slot) (c : CouplingSource) (s : State) :
    (setSource n c s).coup = { s.coup with slots := put s.coup.slots n { s.coup.slots[n] with source := c } } := rfl
@[simp] theorem setSource_trk (n : Slot) (c : CouplingSource) (s : State) : (setSource n c s).trk = s.trk := rfl
@[simp] theorem setSource_conf (n : Slot) (c : CouplingSource) (s : State) : (setSource n c s).conf = s.conf := rfl
@[simp] theorem setSource_rep (n : Slot) (c : CouplingSource) (s : State) : (setSource n c s).rep = s.rep := rfl
@[simp] theorem setSource_mark (n : Slot) (c : CouplingSource) (s : State) : (setSource n c s).mark = s.mark := rfl
@[simp] theorem setSource_store (n : Slot) (c : CouplingSource) (s : State) : (setSource n c s).store = s.store := rfl
@[simp] theorem setSource_link (n : Slot) (c : CouplingSource) (s : State) : (setSource n c s).link = s.link := rfl
@[simp] theorem setSource_pending (n : Slot) (c : CouplingSource) (s : State) : (setSource n c s).pending = s.pending := rfl

end Sys2Proof.Machine
end

