-- ==== Sys2Proof/Laws/Memory.lean ====
section
/-! SUPPORT. The laws of the memory: reading after writing, and the canonical form kept by every operation. -/

namespace Sys2Proof.Machine

/-- Raising the bound of the canonical form downward. -/
theorem Memory.wfFrom_mono {lo lo' : Nat} (h : lo' ≤ lo) (m : List (Nat × StoreWord)) (hw : Memory.wfFrom lo m = true) :
    Memory.wfFrom lo' m = true := by
  cases m with
  | nil => rfl
  | cons x rest =>
    simp only [Memory.wfFrom, Bool.and_eq_true, decide_eq_true_eq] at hw ⊢
    exact ⟨⟨⟨by omega, hw.1.1.2⟩, hw.1.2⟩, hw.2⟩

/-- A write keeps the canonical form above any bound not above its address. -/
theorem Memory.write_wfFrom {lo a : Nat} (m : List (Nat × StoreWord)) (w : StoreWord) (ha : lo ≤ a) (hs : a < storeSize)
    (hw : Memory.wfFrom lo m = true) : Memory.wfFrom lo (Memory.write m a w) = true := by
  induction m generalizing lo with
  | nil =>
    simp only [Memory.write]
    split
    · rfl
    · simp_all [Memory.wfFrom]
  | cons x rest ih =>
    obtain ⟨b, v⟩ := x
    simp only [Memory.wfFrom, Bool.and_eq_true, decide_eq_true_eq] at hw
    obtain ⟨⟨⟨h1, h2⟩, h3⟩, h4⟩ := hw
    simp only [Memory.write]
    split
    · split
      · simp_all [Memory.wfFrom]
      · rename_i hlt hne
        simp only [Memory.wfFrom, Bool.and_eq_true, decide_eq_true_eq]
        exact ⟨⟨⟨ha, hs⟩, hne⟩, ⟨⟨⟨by omega, h2⟩, h3⟩, h4⟩⟩
    · split
      · split
        · exact Memory.wfFrom_mono (by omega) rest h4
        · rename_i heq hne
          simp only [Memory.wfFrom, Bool.and_eq_true, decide_eq_true_eq]
          subst heq
          exact ⟨⟨⟨h1, h2⟩, hne⟩, h4⟩
      · simp only [Memory.wfFrom, Bool.and_eq_true, decide_eq_true_eq]
        exact ⟨⟨⟨h1, h2⟩, h3⟩, ih (by omega) h4⟩

/-- A write to an existing word keeps the canonical form. -/
theorem Memory.write_wf {a : Nat} (m : List (Nat × StoreWord)) (w : StoreWord) (hs : a < storeSize)
    (hw : Memory.wf m = true) : Memory.wf (Memory.write m a w) = true :=
  Memory.write_wfFrom m w (Nat.zero_le a) hs hw

/-- An address below the bound of the canonical form is not listed. -/
theorem Memory.read_below {lo a : Nat} (m : List (Nat × StoreWord)) (hw : Memory.wfFrom lo m = true) (h : a < lo) :
    Memory.read m a = clearedWord := by
  induction m generalizing lo with
  | nil => rfl
  | cons x rest ih =>
    obtain ⟨b, v⟩ := x
    simp only [Memory.wfFrom, Bool.and_eq_true, decide_eq_true_eq] at hw
    simp only [Memory.read]
    rw [if_neg (by omega)]
    exact ih hw.2 (by omega)

/-- A read after a write of the same word gives the word written. -/
theorem Memory.read_write_same {lo a : Nat} (m : List (Nat × StoreWord)) (w : StoreWord) (hw : Memory.wfFrom lo m = true) :
    Memory.read (Memory.write m a w) a = w := by
  induction m generalizing lo with
  | nil =>
    simp only [Memory.write]
    split
    · simp_all [Memory.read]
    · simp [Memory.read]
  | cons x rest ih =>
    obtain ⟨b, v⟩ := x
    simp only [Memory.wfFrom, Bool.and_eq_true, decide_eq_true_eq] at hw
    simp only [Memory.write]
    split
    · split
      · rename_i hlt heq
        simp only [Memory.read]
        rw [if_neg (by omega), Memory.read_below rest hw.2 (by omega), heq]
      · simp [Memory.read]
    · split
      · split
        · rename_i hlt hab heq
          rw [Memory.read_below rest hw.2 (by omega), heq]
        · simp [Memory.read]
      · rename_i hlt hab
        simp only [Memory.read]
        rw [if_neg (fun h => hab h.symm)]
        exact ih hw.2

/-- A write leaves every other word alone. -/
theorem Memory.read_write_other {lo a b : Nat} (m : List (Nat × StoreWord)) (w : StoreWord)
    (hw : Memory.wfFrom lo m = true) (hab : b ≠ a) : Memory.read (Memory.write m a w) b = Memory.read m b := by
  induction m generalizing lo with
  | nil =>
    simp only [Memory.write]
    split
    · rfl
    · simp [Memory.read, Ne.symm hab]
  | cons x rest ih =>
    obtain ⟨c, v⟩ := x
    simp only [Memory.wfFrom, Bool.and_eq_true, decide_eq_true_eq] at hw
    simp only [Memory.write]
    split
    · split
      · rfl
      · simp only [Memory.read]
        rw [if_neg (Ne.symm hab)]
    · split
      · rename_i hlt hac
        subst hac
        split
        · simp only [Memory.read]
          rw [if_neg (Ne.symm hab)]
        · simp only [Memory.read]
          rw [if_neg (Ne.symm hab), if_neg (Ne.symm hab)]
      · simp only [Memory.read]
        split
        · rfl
        · exact ih hw.2

/-- The memory of the state right after reset has the canonical form. -/
theorem State.reset_wf : Memory.wf State.reset.store.cells = true := rfl

/-- Replacing a word keeps the canonical form. -/
theorem State.setWord_wf (s : State) (a : Nat) (w : StoreWord) (h : Memory.wf s.store.cells = true) :
    Memory.wf (s.setWord a w).store.cells = true := by
  unfold State.setWord
  split
  · exact Memory.write_wf _ _ ‹_› h
  · exact h

/-- Writing words keeps the canonical form. -/
theorem writeWords_wf (ds : List Word) (a : Nat) (s : State) (h : Memory.wf s.store.cells = true) :
    Memory.wf (writeWords a ds s).store.cells = true := by
  induction ds generalizing a s with
  | nil => exact h
  | cons d rest ih => exact ih _ _ (State.setWord_wf s a _ h)

/-- Writing an item keeps the canonical form. -/
theorem writeItem_wf (base size : Nat) (s : State) (h : Memory.wf s.store.cells = true) :
    Memory.wf (writeItem base size s).store.cells = true := writeWords_wf _ _ _ h

/-- Wrong data taken for a word of an item writes no other word. -/
theorem garbleItem_cells (r : Region) (k : Nat) (m : BitVec 39) (s : State) :
    (garbleItem r k m s).store.cells = s.store.cells := by
  cases r <;> rfl

/-- A read keeps the canonical form when what a double error and wrong data do keep it. -/
theorem readWith_wf {double : State → State} {wrong : BitVec 39 → State → State} (a : Nat) (s : State)
    (hd : ∀ s, Memory.wf s.store.cells = true → Memory.wf (double s).store.cells = true)
    (hw : ∀ m s, (wrong m s).store.cells = s.store.cells) (h : Memory.wf s.store.cells = true) :
    Memory.wf (readWith double wrong a s).1.store.cells = true := by
  unfold readWith
  dsimp only
  split
  · exact h
  · have h1 := State.setWord_wf s a ⟨‹_›, 0⟩ h
    dsimp only
    split
    · rw [hw]; exact h1
    · exact h1
  · dsimp only
    rw [hw]
    exact State.setWord_wf s a _ h
  · exact hd s h

/-- The reads that find the slots naming a curve area keep the canonical form. -/
theorem damageNaming_wf (a : Area) (n : Slot) (s : State) (h : Memory.wf s.store.cells = true) :
    Memory.wf (damageNaming a s n).store.cells = true := by
  have h1 : Memory.wf (readArea n s).1.store.cells = true := by
    unfold readArea
    exact readWith_wf _ s (fun _ h => h) (fun _ _ => rfl) h
  unfold damageNaming
  split
  · rename_i s1 e; rw [e] at h1; exact h1
  · rename_i s1 d e
    rw [e] at h1
    split <;> exact h1

/-- What holds before a fold and is kept by each of its steps holds after it. -/
theorem foldl_keeps {α β : Type} {f : β → α → β} {P : β → Prop} (hf : ∀ b a, P b → P (f b a)) (l : List α) (b : β)
    (h : P b) : P (l.foldl f b) := by
  induction l generalizing b with
  | nil => exact h
  | cons a rest ih => exact ih _ (hf b a h)

/-- The owner's action at damage keeps the canonical form (R167). -/
theorem ownerAction_wf (r : Region) (s : State) (h : Memory.wf s.store.cells = true) :
    Memory.wf (ownerAction r s).store.cells = true := by
  cases r
  case curve a p =>
    unfold ownerAction damageCurve
    generalize allSlots = l
    exact foldl_keeps (P := fun s : State => Memory.wf s.store.cells = true) (fun s n hs => damageNaming_wf a n s hs) l _ h
  case fifo p =>
    simp only [ownerAction, damageFifo]
    repeat' split
    all_goals exact h
  case report p =>
    simp only [ownerAction, damageRecord]
    split
    · exact h
    · exact h
  all_goals exact h

/-- A double error keeps the canonical form (R167). -/
theorem readDouble_wf (a : Nat) (s : State) (h : Memory.wf s.store.cells = true) :
    Memory.wf (readDouble a s).store.cells = true := by
  unfold readDouble
  dsimp only
  split
  · exact ownerAction_wf _ _ h
  · exact State.setWord_wf _ a _ h

/-- A read keeps the canonical form. -/
theorem readWord_wf (a : Nat) (s : State) (h : Memory.wf s.store.cells = true) :
    Memory.wf (readWord a s).1.store.cells = true := by
  unfold readWord
  exact readWith_wf a s (fun s h => readDouble_wf a s h) (fun _ _ => garbleItem_cells _ _ _ _) h

/-- The reads of work that goes on after damage keep the canonical form. -/
theorem readOn_wf (as : List Nat) (s : State) (h : Memory.wf s.store.cells = true) :
    Memory.wf (readOn as s).1.store.cells = true := by
  induction as generalizing s with
  | nil => exact h
  | cons a rest ih =>
    unfold readOn
    dsimp only
    refine ih _ ?_
    split
    · exact h
    · exact readWord_wf a s h

/-- The reads of several words keep the canonical form. -/
theorem readWords_wf (as : List Nat) (s : State) (h : Memory.wf s.store.cells = true) :
    Memory.wf (readWords as s).1.store.cells = true := by
  induction as generalizing s with
  | nil => exact h
  | cons a rest ih =>
    have h1 := readWord_wf a s h
    unfold readWords
    split
    · rename_i s1 e; rw [e] at h1; exact h1
    · rename_i s1 d e
      rw [e] at h1
      have h2 := ih s1 h1
      split
      · rename_i s2 e2; rw [e2] at h2; exact h2
      · rename_i s2 l e2; rw [e2] at h2; exact h2

/-- The reads of an item keep the canonical form. -/
theorem readItem_wf (base size : Nat) (s : State) (h : Memory.wf s.store.cells = true) :
    Memory.wf (readItem base size s).store.cells = true := readWords_wf _ _ h

end Sys2Proof.Machine
end

