-- ==== Sys2Proof/Laws/Ops.lean ====
section
/-! SUPPORT. One lemma per shared operation: everything it can do. -/

namespace Sys2Proof.Machine

/-- A word whose stored bits stand as last written is read as it was written, and nothing changes. -/
theorem readWord_sound {a : Nat} {s : State} (h : (s.word a).changed = 0) : readWord a s = (s, some (s.word a).data) := by
  have hb : bitCount 39 (0 : BitVec 39) = 0 := by decide
  simp only [readWord, readWith, judge, h, hb]

/-- A word with one changed bit is corrected, written back and counted (R166). -/
theorem readWord_single {a : Nat} {s : State} (h : bitCount 39 (s.word a).changed = 1) :
    readWord a s = ((s.setWord a ⟨(s.word a).data, 0⟩).count addStoreCorrected, some (s.word a).data) := by
  simp [readWord, readWith, judge, h]

/-- A word with two changed bits returns no data (R167). -/
theorem readWord_double {a : Nat} {s : State} (h : bitCount 39 (s.word a).changed = 2) :
    readWord a s = (readDouble a s, none) := by
  simp [readWord, readWith, judge, h]

/-- Sound words are read as they were written, and nothing changes. -/
theorem readWords_sound {as : List Nat} {s : State} (h : ∀ a ∈ as, (s.word a).changed = 0) :
    readWords as s = (s, some (as.map fun a => (a, (s.word a).data))) := by
  induction as with
  | nil => rfl
  | cons a rest ih =>
    have h1 := readWord_sound (h a (by simp))
    have h2 := ih fun b hb => h b (by simp [hb])
    simp [readWords, h1, h2]

/-- The read of an item whose words are sound changes nothing. -/
theorem readItem_sound {base size : Nat} {s : State} (h : ∀ k < size, (s.word (base + k)).changed = 0) :
    readItem base size s = s := by
  unfold readItem
  rw [readWords_sound]
  intro a ha
  simp only [wordsFrom, List.mem_map, List.mem_range] at ha
  obtain ⟨k, hk, rfl⟩ := ha
  exact h k hk

/-- Work in which the station record stands may read every word. -/
@[simp] theorem recordGone_calm {s : State} (h : s.store.clearAtRelease = false) (a : Nat) : recordGone s a = false := by
  simp [recordGone, h]

/-- The words of the other items are read also by work that has given the station record up. -/
theorem recordGone_above {a : Nat} (s : State) (h : 16 ≤ a) : recordGone s a = false := by
  simp [recordGone, h]

/-- Sound words of items that the work has not given up are read as they were written by work that goes on after damage too, and
nothing changes. -/
theorem readOn_sound {as : List Nat} {s : State} (hc : ∀ a ∈ as, recordGone s a = false)
    (h : ∀ a ∈ as, (s.word a).changed = 0) :
    readOn as s = (s, as.map fun a => (a, (s.word a).data)) := by
  induction as with
  | nil => rfl
  | cons a rest ih =>
    have h1 := readWord_sound (h a (by simp))
    have h2 := ih (fun b hb => hc b (by simp [hb])) fun b hb => h b (by simp [hb])
    simp [readOn, hc a, h1, h2]

/-- What the taking of a shot-processing request does: that requester holds the grant, and nothing but its request changes
(R170, R171). -/
theorem takeShot_spec {α : Type} {f : ShotReq → Option α} {s t : State} {x : α} (h : takeShot f s = some (x, t)) :
    s.store.grant = some .shot ∧ ∃ left, takeGroups f (s.store.shotReqs.take s.store.grantShots) = some (x, left) ∧
      t = { s with store := { s.store with shotReqs := left ++ s.store.shotReqs.drop s.store.grantShots } } := by
  unfold takeShot at h
  split at h
  · rename_i hg
    refine ⟨by simpa [grants] using hg, ?_⟩
    cases ht : takeGroups f (s.store.shotReqs.take s.store.grantShots) with
    | none => simp [ht] at h
    | some y =>
      simp only [ht, Option.map_some, Option.some.injEq, Prod.mk.injEq] at h
      obtain ⟨rfl, rfl⟩ := h
      exact ⟨y.2, rfl, rfl⟩
  · cases h

/-- What the taking of a link receiver request does: that requester holds the grant, and its oldest request leaves. -/
theorem takeRx_spec {α : Type} {f : RxReq → Option α} {s t : State} {x : α} (h : takeRx f s = some (x, t)) :
    s.store.grant = some .receiver ∧ ∃ r rest, s.store.rxReqs = r :: rest ∧ f r = some x ∧
      t = { s with store := { s.store with rxReqs := rest } } := by
  unfold takeRx at h
  split at h
  · rename_i hg
    refine ⟨by simpa [grants] using hg, ?_⟩
    split at h
    · cases h
    · rename_i r rest hr
      cases hf : f r with
      | none => simp [hf] at h
      | some y =>
        simp only [hf, Option.map_some, Option.some.injEq, Prod.mk.injEq] at h
        obtain ⟨rfl, rfl⟩ := h
        exact ⟨r, rest, hr, hf, rfl⟩
  · cases h

/-- What the taking of a link transmitter request does: that requester holds the grant, and its oldest request leaves. -/
theorem takeTx_spec {α : Type} {f : TxReq → Option α} {s t : State} {x : α} (h : takeTx f s = some (x, t)) :
    s.store.grant = some .transmitter ∧ ∃ r rest, s.store.txReqs = r :: rest ∧ f r = some x ∧
      t = { s with store := { s.store with txReqs := rest } } := by
  unfold takeTx at h
  split at h
  · rename_i hg
    refine ⟨by simpa [grants] using hg, ?_⟩
    split at h
    · cases h
    · rename_i r rest hr
      cases hf : f r with
      | none => simp [hf] at h
      | some y =>
        simp only [hf, Option.map_some, Option.some.injEq, Prod.mk.injEq] at h
        obtain ⟨rfl, rfl⟩ := h
        exact ⟨r, rest, hr, hf, rfl⟩
  · cases h

/-- All that the arbiter does: a held grant stays, a free store for which nothing waits stays free, and any other is granted to
the request that goes first (R171). -/
theorem arbitrate_cases (s : State) :
    (s.store.grant.isSome = true ∧ arbitrate s = s) ∨
      (s.store.grant = none ∧ nextGrant s = none ∧ arbitrate s = s) ∨
      ∃ g, s.store.grant = none ∧ nextGrant s = some g ∧ arbitrate s = grantTo g s := by
  unfold arbitrate
  cases h : s.store.grant with
  | some r => left; simp
  | none => cases hn : nextGrant s <;> simp

/-! The arbiter touches the grant and the granted scrub request alone (R171, R173). -/

@[simp] theorem arbitrate_strap (s : State) : (arbitrate s).strap = s.strap := by
  unfold arbitrate; repeat' split
  all_goals rfl
@[simp] theorem arbitrate_resetPin (s : State) : (arbitrate s).resetPin = s.resetPin := by
  unfold arbitrate; repeat' split
  all_goals rfl
@[simp] theorem arbitrate_odo (s : State) : (arbitrate s).odo = s.odo := by
  unfold arbitrate; repeat' split
  all_goals rfl
@[simp] theorem arbitrate_sched (s : State) : (arbitrate s).sched = s.sched := by
  unfold arbitrate; repeat' split
  all_goals rfl
@[simp] theorem arbitrate_rail (s : State) : (arbitrate s).rail = s.rail := by
  unfold arbitrate; repeat' split
  all_goals rfl
@[simp] theorem arbitrate_gain (s : State) : (arbitrate s).gain = s.gain := by
  unfold arbitrate; repeat' split
  all_goals rfl
@[simp] theorem arbitrate_gates (s : State) : (arbitrate s).gates = s.gates := by
  unfold arbitrate; repeat' split
  all_goals rfl
@[simp] theorem arbitrate_coup (s : State) : (arbitrate s).coup = s.coup := by
  unfold arbitrate; repeat' split
  all_goals rfl
@[simp] theorem arbitrate_trk (s : State) : (arbitrate s).trk = s.trk := by
  unfold arbitrate; repeat' split
  all_goals rfl
@[simp] theorem arbitrate_conf (s : State) : (arbitrate s).conf = s.conf := by
  unfold arbitrate; repeat' split
  all_goals rfl
@[simp] theorem arbitrate_rep (s : State) : (arbitrate s).rep = s.rep := by
  unfold arbitrate; repeat' split
  all_goals rfl
@[simp] theorem arbitrate_mark (s : State) : (arbitrate s).mark = s.mark := by
  unfold arbitrate; repeat' split
  all_goals rfl
@[simp] theorem arbitrate_link (s : State) : (arbitrate s).link = s.link := by
  unfold arbitrate; repeat' split
  all_goals rfl
@[simp] theorem arbitrate_pending (s : State) : (arbitrate s).pending = s.pending := by
  unfold arbitrate; repeat' split
  all_goals rfl
@[simp] theorem arbitrate_store_cells (s : State) : (arbitrate s).store.cells = s.store.cells := by
  unfold arbitrate; repeat' split
  all_goals rfl
@[simp] theorem arbitrate_store_shotReqs (s : State) : (arbitrate s).store.shotReqs = s.store.shotReqs := by
  unfold arbitrate; repeat' split
  all_goals rfl
@[simp] theorem arbitrate_store_rxReqs (s : State) : (arbitrate s).store.rxReqs = s.store.rxReqs := by
  unfold arbitrate; repeat' split
  all_goals rfl
@[simp] theorem arbitrate_store_txReqs (s : State) : (arbitrate s).store.txReqs = s.store.txReqs := by
  unfold arbitrate; repeat' split
  all_goals rfl
@[simp] theorem arbitrate_store_markerReq (s : State) : (arbitrate s).store.markerReq = s.store.markerReq := by
  unfold arbitrate; repeat' split
  all_goals rfl
@[simp] theorem arbitrate_store_scrubUrgent (s : State) : (arbitrate s).store.scrubUrgent = s.store.scrubUrgent := by
  unfold arbitrate; repeat' split
  all_goals rfl
@[simp] theorem arbitrate_store_scrubAddr (s : State) : (arbitrate s).store.scrubAddr = s.store.scrubAddr := by
  unfold arbitrate; repeat' split
  all_goals rfl
@[simp] theorem arbitrate_store_scrubTimer (s : State) : (arbitrate s).store.scrubTimer = s.store.scrubTimer := by
  unfold arbitrate; repeat' split
  all_goals rfl
@[simp] theorem arbitrate_store_scrubWait (s : State) : (arbitrate s).store.scrubWait = s.store.scrubWait := by
  unfold arbitrate; repeat' split
  all_goals rfl
@[simp] theorem arbitrate_store_clearAtRelease (s : State) : (arbitrate s).store.clearAtRelease = s.store.clearAtRelease := by
  unfold arbitrate; repeat' split
  all_goals rfl

/-- The end of work that met no damage in the station record (R168, R171). -/
theorem finish_calm {s : State} (h : s.store.clearAtRelease = false) : finish s = arbitrate s := by
  simp [finish, clearDamage, h]

/-- A release with no damage met in the station record (R171). -/
theorem release_calm {s : State} (h : s.store.clearAtRelease = false) :
    release s = linkWake (arbitrate (s.withGrant none)) := by
  unfold release
  rw [finish_calm (by simpa using h)]

/-- All that a run-control frame does (R174, R184). -/
theorem takeFrame_cases (taken : State → Bool) (body : State → State) (s : State) :
    (taken s = false ∧ takeFrame taken body s = s) ∨
      (taken s = true ∧ taken (settleCount (runSetupStore s)) = false ∧
        takeFrame taken body s = settleCount (runSetupStore s)) ∨
      (taken s = true ∧ taken (settleCount (runSetupStore s)) = true ∧
        takeFrame taken body s = body (settleCount (runSetupStore s))) := by
  unfold takeFrame
  cases taken s <;> cases h : taken (settleCount (runSetupStore s)) <;> simp [h]

/-- All that a reception can do (R177, R178). -/
theorem receive_cases (kind : Nat) (f : Frame) (use : State → State) (s : State) :
    receive kind f use s = s ∨ receive kind f use s = s.count addCrcErrors ∨
      receive kind f use s = s.setLink (fun l => { l with clash := true }) ∨ receive kind f use s = use s := by
  unfold receive
  repeat' split
  all_goals simp

/-- The waking of the transmitter changes nothing but the access state and its wait (R179). -/
theorem linkWake_cases (s : State) : linkWake s = s ∨ (s.link.access = .idle ∧ frameReady s = true ∧ linkWake s = toIdleWait s) := by
  unfold linkWake
  split
  · rename_i h; exact .inr ⟨h.1, h.2, rfl⟩
  · exact .inl rfl

/-- The settling of a count of a state in which none is outstanding (log 1). -/
theorem settleCount_settled {s : State} (h1 : s.odo.stepReached = false) (h2 : s.odo.revReached = false) :
    settleCount s = s := by
  simp [settleCount, h1, h2]

/-- Every event other than an upset of a word the store does not have goes on. -/
theorem exec_runs (i : Instr) (s : State) (h : ∀ a m, i = .upset a m → a < storeSize) : ∃ t, exec i s = .next t := by
  cases i
  case upset a m =>
    refine ⟨s.setWord a { s.word a with changed := (s.word a).changed ^^^ m }, ?_⟩
    simp only [exec, execUpset, if_pos (h a m rfl)]
  all_goals exact ⟨_, rfl⟩

end Sys2Proof.Machine
end

