-- ==== Sys2Proof/Tests/Slice0.lean ====
section
/-! SUPPORT. Tests: the checks of WellFormed refuse ill-formed terms, single commands give what the manual's worked sequences give, and the hypotheses of every statement are met together by a concrete state. -/

namespace Sys2Proof.Tests

open Sys2Proof Sys2Proof.Machine

/-! Helpers. -/

/-- The state right after reset. -/
def base : State := State.reset

/-- The state in which an outcome leaves the station. -/
def after (o : Out) : State :=
  match o with
  | .next t => t
  | .fault _ => base
  | .refused _ => base

/-- In a run state with the station record present. -/
def inState (r : RunState) (s : State) : State := { s with link := { s.link with run := r, present := true } }

/-- With one request of the shot-processing requester, granted. -/
def asking (r : ShotReq) (s : State) : State :=
  { s with store := { s.store with shotReqs := [[r]], grant := some .shot, grantShots := 1 } }

/-- With one request of the link receiver, granted in the run state as it stands. -/
def askingRx (r : RxReq) (s : State) : State :=
  { s with store := { s.store with rxReqs := [r], grant := some .receiver, grantRun := s.link.run } }

/-- With one request of the link transmitter, granted. -/
def askingTx (r : TxReq) (s : State) : State := { s with store := { s.store with txReqs := [r], grant := some .transmitter } }

/-- With the words listed in the store. -/
def holding (cells : List (Nat × StoreWord)) (s : State) : State := { s with store := { s.store with cells := cells } }

/-- A frame of node `src` to this station, number 0. -/
def frameFrom (src : Nat) (payload : List Byte) : Frame :=
  { source := BitVec.ofNat 8 src, dest := 0, payload := payload }

/-- A frame of the recorder. -/
def fromRecorder (payload : List Byte) : Frame := frameFrom 15 payload

/-- A payload of `n` zeros after the bytes given. -/
def zeros (l : List Byte) (n : Nat) : List Byte := l ++ List.replicate n 0

/-- A round of slot 0 in flight, its turn not disposed of. -/
def oneRound : Round := { origin := .step, index := some 0, pos := 40, due := [0], todo := [0] }

/-- Turn fields. -/
def oneTurn : Turn := { txPort := 0, rxPort := 0, quiet := 10, autoZero := false }

/-- A shot of slot 0. -/
def oneShot (void : Bool) : Shot :=
  { slot := 0, firePos := 40, settle := true, unclaimed := false, void := void, turn := oneTurn, decision := none }

/-- A record of slot 0. -/
def oneRecord (settle autoZero transmitted : Bool) : ShotRecord :=
  { slot := 0, firePos := 40, settle := settle, unclaimed := false, autoZero := autoZero, transmitted := transmitted,
    peaks := [⟨4095, 900⟩], overflow := false, decision := none }

/-- A hit of gate A. -/
def oneHit (pos : Int) (amp : Nat) : Hit :=
  { slot := 0, gate := .a, kind := .reflector, time := none, amp := amp, pos := pos, depth := some 40, flags := HitFlags.clear }

/-- An open entry of slot 0. -/
def oneEntry : Entry := openedBy 1 (oneHit 500 300)

/-- An indication record of a class. -/
def oneReport (number cls : Nat) : IndicationRecord :=
  { (default : IndicationRecord) with number := number, cls := cls, peakAmp := 300 }

/-- A mark. -/
def aMark (pos : Int) (side : Dir) (fresh : Bool) : Placed Mark := { place := 0, item := { pos := pos, side := side, fresh := fresh } }

/-- The shot of slot 0 fired, or the round of slot 0 at its turn. -/
def withSched (f : Scheduler → Scheduler) (s : State) : State := { s with sched := f s.sched }

/-- A change of the rail unit. -/
def withRail (f : RailUnit → RailUnit) (s : State) : State := { s with rail := f s.rail }

/-- A change of the Link Controller. -/
def withLink (f : LinkUnit → LinkUnit) (s : State) : State := { s with link := f s.link }

/-- A change of the store unit. -/
def withStore (f : StoreUnit → StoreUnit) (s : State) : State := { s with store := f s.store }

/-- A change of the marker unit. -/
def withMark (f : MarkerUnit → MarkerUnit) (s : State) : State := { s with mark := f s.mark }

/-- A change of the tracker. -/
def withTrk (f : TrackerUnit → TrackerUnit) (s : State) : State := { s with trk := f s.trk }

/-- One open entry at index 0. -/
def withEntry (s : State) : State :=
  withTrk (fun u => { u with entries := put u.entries 0 (some oneEntry), order := [0] }) s

/-- The claim state with the round at its turn. -/
def claiming (c : Claim) (s : State) : State :=
  withRail (fun u => { u with claim := c, slot := some 0 })
    (withSched (fun u => { u with round := some oneRound, turn := some oneTurn, walk := .claiming }) s)

/-! WellFormed refuses each ill-formed term. -/

theorem test_wellformed_sample_order : (Instr.shotCompletion true [(5, 10), (5, 20)]).wellFormed = false := by decide
theorem test_wellformed_upset_address : (Instr.upset 1024 1).wellFormed = false := by decide
theorem test_wellformed_upset_mask : (Instr.upset 1023 0).wellFormed = false := by decide
theorem test_wellformed_malformed_frame :
    (Instr.malformedFrame (frameBytes 6 15 0 [])).wellFormed = false := by decide +kernel
theorem test_wellformed_setup_station : (Instr.setupStation (fromRecorder (zeros [] 30))).wellFormed = false := by decide
theorem test_wellformed_setup_slot : (Instr.setupSlot (fromRecorder (zeros [] 47))).wellFormed = false := by decide
theorem test_wellformed_setup_curve : (Instr.setupCurve (fromRecorder (zeros [] 13))).wellFormed = false := by decide
theorem test_wellformed_close_setup : (Instr.closeSetup (fromRecorder [0])).wellFormed = false := by decide
theorem test_wellformed_arm_new_length : (Instr.armNew (fromRecorder [0])).wellFormed = false := by decide
theorem test_wellformed_arm_new_mode : (Instr.armNew (fromRecorder (zeros [1] 4))).wellFormed = false := by decide
theorem test_wellformed_arm_resume_length : (Instr.armResume (fromRecorder [1])).wellFormed = false := by decide
theorem test_wellformed_arm_resume_mode : (Instr.armResume (fromRecorder (zeros [0] 4))).wellFormed = false := by decide
theorem test_wellformed_halt : (Instr.halt (fromRecorder [0])).wellFormed = false := by decide
theorem test_wellformed_end : (Instr.endRun (fromRecorder [0])).wellFormed = false := by decide
theorem test_wellformed_station_reset : (Instr.stationReset (fromRecorder [0])).wellFormed = false := by decide
theorem test_wellformed_shot_request : (Instr.shotRequest (fromRecorder [])).wellFormed = false := by decide
theorem test_wellformed_indication : (Instr.indication (frameFrom 3 (zeros [] 28))).wellFormed = false := by decide
theorem test_wellformed_watch : (Instr.watch (frameFrom 3 (zeros [] 9))).wellFormed = false := by decide
theorem test_wellformed_peer_status : (Instr.peerStatusFrame (frameFrom 3 (zeros [] 12))).wellFormed = false := by decide
theorem test_wellformed_peer_shot : (Instr.peerShotFrame (frameFrom 3 (zeros [] 49))).wellFormed = false := by decide
theorem test_wellformed_accepts :
    (Instr.upset 1023 1).wellFormed = true ∧ (Instr.armNew (fromRecorder (zeros [0] 4))).wellFormed = true ∧
      (Instr.malformedFrame (startByte :: [6, 15, 0, 0, 0, 0])).wellFormed = true := by decide +kernel

/-! Single commands. The expected values are the manual's. -/

/-- The station of 01's first worked sequence at its start. -/
def sequence01 : State :=
  { base with odo := { base.odo with pc := 1000, index := 838, countLen := 2, stepCounts := 4, hyst := 3 } }

/-- 01, worked sequence, line 4: the fourth count is a step. -/
theorem test_encoder_step_line4 :
    let s := { sequence01 with odo := { sequence01.odo with pc := 1006, acc := 3, ref := 2 } }
    let t := after (exec .step (after (exec (.encoderTransition 0) s)))
    t.odo.pc = 1008 ∧ t.odo.acc = 0 ∧ t.odo.index = 839 := by decide

/-- 01, worked sequence, line 8: both lines change. -/
theorem test_encoder_glitch_line8 :
    let t := after (exec (.encoderTransition 2) { sequence01 with odo := { sequence01.odo with ref := 1 } })
    t.odo.pc = 1000 ∧ t.odo.ref = 2 ∧ t.link.counts.encoderErrors = 1 := by decide

/-- 01, worked sequence, line 11: the step index wraps from 839 to 0. -/
theorem test_step_wraps :
    (after (exec .step { base with odo := { base.odo with index := 839, stepReached := true } })).odo.index = 0 := by decide

/-- 01, worked sequence, line 14: the run reaches H and Dir turns. -/
theorem test_reversal_line14 :
    let s := { sequence01 with odo := { sequence01.odo with pc := 1012, revRun := 2, ref := 0 } }
    let t := after (exec .reversal (after (exec (.encoderTransition 2) s)))
    t.odo.pc = 1010 ∧ t.odo.dir = .minus ∧ t.odo.revRun = 0 ∧ t.odo.acc = 0 := by decide

/-- 01, position at a range end, line 2. -/
theorem test_encoder_range_end :
    let t := after (exec (.encoderTransition 1)
      { base with odo := { base.odo with pc := 2147483640, countLen := 8, stepCounts := 32 } })
    t.odo.pc = 2147483647 ∧ t.odo.posLimit = true ∧ t.odo.acc = 1 ∧ t.mark.latest = 2147483647 := by decide

/-- R42: station 0 deferred fewer than two times has rank 8, and its delay is 20 µs. -/
theorem test_release_starts_delay :
    (after (exec .railLineRelease (withRail (fun u => { u with others := true }) (claiming .waiting base)))).rail.delay =
      some 20 := by decide

/-- R43, R46: a claim in DELAY loses to an assertion. -/
theorem test_assertion_defers :
    let t := after (exec .railLineAssertion (claiming .delay base))
    t.rail.claim = .waiting ∧ t.rail.deferral = 1 ∧ t.rail.stuckTimer = some 0 := by decide

/-- R44: an expiry with the line free fires the claim slot. -/
theorem test_delay_expiry_fires :
    let t := after (exec .arbitrationDelayExpiry (claiming .delay base))
    t.rail.drive = true ∧ t.sched.walk = .shot := by decide

/-- R47, R48: a claim that waits is granted unclaimed. -/
theorem test_stuck_grants :
    let t := after (exec .stuckTimerExpiry (withRail (fun u => { u with stuckTimer := some 0 }) (claiming .waiting base)))
    t.rail.stuck = true ∧ (t.sched.shot.map (·.unclaimed)) = some true := by decide

/-- R100, R101: the third completion in a row without a pulse faults the port. -/
theorem test_completion_faults_port :
    let s := withSched (fun u => { u with shot := some (oneShot false) }) base
    (after (exec (.shotCompletion false []) { s with coup := { s.coup with noTransmit := put s.coup.noTransmit 0 2 } })
      ).coup.portFault[(0 : Port)] = true := by decide

/-- R54, R55: two excursions give two peaks, each at its first highest sample. -/
theorem test_completion_peaks :
    ((after (exec (.shotCompletion true [(10, 5), (11, 9), (12, 9), (20, 7)])
      (withSched (fun u => { u with shot := some (oneShot false) })
        { base with gain := { base.gain with listening := some ⟨0, 4⟩ } }))).gain.processing.map (·.peaks)) =
      some [⟨11, 9⟩, ⟨20, 7⟩] := by decide

/-- R64: the three worked segment gains. -/
theorem test_segment_gain :
    segmentGain (1000, 0) (3000, 20) 2100 = 11 ∧ segmentGain (1000, 20) (3000, 0) 2100 = 9 ∧
      segmentGain (9000, 30) (10500, 24) 9800 = 27 := by decide

/-- R158 to R160: a mark at the gun position of a test fires in PULSE mode. -/
theorem test_marker_fires :
    let t := after (exec .markerTest (withStore (fun u => { u with markerReq := true, grant := some .marker })
      (withMark (fun u => { u with marks := [aMark 100 .plus true], latest := 100, greatest := 100, pulse := 7 }) base)))
    t.mark.on = true ∧ t.mark.pulseTimer = some 7 ∧ t.mark.marks = [] := by decide

/-- R160: the pulse ends. -/
theorem test_marker_pulse_ends :
    (after (exec .markerPulseExpiry (withMark (fun u => { u with on := true, pulseTimer := some 7 }) base))).mark.on = false := by
  decide

/-- R166, R173: a scrub read corrects one changed bit and counts it. -/
theorem test_scrub_corrects :
    let s := holding [(0, ⟨0, 1⟩)] (withStore (fun u => { u with grant := some .scrubber }) base)
    let t := after (exec .scrubRead s)
    (t.word 0).changed = 0 ∧ t.link.counts.storeCorrected = 1 ∧ t.store.scrubAddr = 1 := by decide

/-- R167, R168: damage in the station record of a running station returns it to SETUP without its record. -/
theorem test_scrub_station_damage :
    let s := inState .run (holding [(0, ⟨0, 3⟩)] (withStore (fun u => { u with grant := some .scrubber }) base))
    let t := after (exec .scrubRead s)
    t.link.run = .setup ∧ t.link.present = false := by decide

/-- R166: an upset of a word, seen again, undoes itself. -/
theorem test_upset_twice :
    let t := after (exec (.upset 1023 5) (after (exec (.upset 1023 5) base)))
    t.store.cells = [] := by decide

/-- R177: the CRC of the bytes of the digits 1 to 9, the usual check of this polynomial with a register of all ones. -/
theorem test_crc_check : crc16 [0x31, 0x32, 0x33, 0x34, 0x35, 0x36, 0x37, 0x38, 0x39] = 0x29B1#16 := by decide +kernel

/-- R177: a frame cut short is counted. -/
theorem test_malformed_counts :
    (after (exec (.malformedFrame [0xC3, 6, 15]) base)).link.counts.crcErrors = 1 := by decide

/-- R179: activity of another node during a wait of 56 bit times spends the hold-off (11, transmitter sequence, line 6). -/
theorem test_line_activity :
    let t := after (exec (.lineActivity true) (withLink (fun l => { l with access := .idleWait, holdOff := true }) base))
    t.link.wait = some 24 ∧ t.link.holdOff = false := by decide

/-- R179: the access delay of station 3 is 12 bit times (11, transmitter sequence, line 1). -/
theorem test_idle_wait_expiry :
    (after (exec .idleWaitExpiry (withLink (fun l => { l with access := .idleWait }) { base with strap := 3 }))).link.wait =
      some 12 := by decide

/-- R182: a divisor of 0 becomes 1, and slot 11 is stored in its own place. -/
theorem test_setup_slot_store :
    (slotAt (after (exec .setupFrameStore (askingRx (.slot (zeros [11] 47)) base))) 11).divisor = 1 := by decide

/-- R58, R182: area 8 is refused. -/
theorem test_setup_curve_refused :
    (after (exec (.setupCurve (fromRecorder (zeros [8] 13))) base)).link.counts.setupRefused = 1 := by decide

/-- R183: READY at the end of the checks when the record is present. -/
theorem test_close_setup_ready :
    (after (exec .closeSetupChecks (askingRx .checks (inState .setup base)))).link.run = .ready := by decide +kernel

/-- R16: ARM NEW takes the signed start position. -/
theorem test_arm_new_start :
    (after (exec (.armNew (fromRecorder [0, 0xFF, 0xFF, 0xFF, 0xFE])) (inState .ready base))).odo.pc = -2 := by
  decide +kernel

/-- R184: ARM RESUME is taken in HOLD alone. -/
theorem test_arm_resume :
    (after (exec (.armResume (fromRecorder (zeros [1] 4))) (inState .hold base))).link.run = .run ∧
      (after (exec (.armResume (fromRecorder (zeros [1] 4))) (inState .ready base))).link.run = .ready := by decide

/-- R30, R184: HALT makes the shot in flight void. -/
theorem test_halt_voids :
    let t := after (exec (.halt (fromRecorder [])) (inState .run (withSched (fun u => { u with shot := some (oneShot false) }) base)))
    t.link.run = .hold ∧ (t.sched.shot.map (·.void)) = some true := by decide

/-- R184: END goes to READY. -/
theorem test_end : (after (exec (.endRun (fromRecorder [])) (inState .hold base))).link.run = .ready := by decide

/-- R178, R185: a STATION RESET to node 31 is ignored, one to this station keeps the record present. -/
theorem test_station_reset :
    (after (exec (.stationReset { source := 15, dest := 31, payload := [] }) (inState .run base))).link.run = .run ∧
      (after (exec (.stationReset (fromRecorder [])) (inState .run base))).link.present = true := by decide

/-- R36: slot 11 is held, number 12 is ignored. -/
theorem test_shot_request :
    (after (exec (.shotRequest (fromRecorder [11])) base)).sched.request = some 11 ∧
      (after (exec (.shotRequest (fromRecorder [12])) base)).sched.request = none := by decide

/-- R178: a frame with this station's own number sets the clash flag. -/
theorem test_clash : (after (exec (.watch (frameFrom 0 (zeros [] 10))) base)).link.clash = true := by decide

/-- R136, R137: a peer's INDICATION for the same rail joins in RUN as REPORTED. -/
theorem test_peer_join :
    ((after (exec .peerFrameJoin (askingRx (.indication 3 (zeros [3, 0, 9, 5] 25)) (inState .run base)))).conf.list.map
      (·.item)) = [⟨3, 5, 9, 0, .reported⟩] := by decide

/-- R181: at station 3 with a report, STATUS due and nothing else, the report queue is chosen before STATUS and locks. -/
theorem test_source_order :
    let s := withLink (fun l => { l with access := .delay }) { base with rep := { records := [⟨0, oneReport 52 3⟩], locked := none } }
    let t := after (exec .accessDelayExpiry s)
    t.rep.locked = some 52 ∧ t.link.tx = .reading := by decide

/-- R154, R179: the end of an INDICATION takes its record out and sets the hold-off. -/
theorem test_transmission_end :
    let s := withLink (fun l => { l with access := .sending, tx := .sending .indication [] })
      { base with rep := { records := [⟨0, oneReport 52 3⟩], locked := some 52 } }
    let t := after (exec .transmissionEnd s)
    t.rep.records = [] ∧ t.link.holdOff = true ∧ t.link.wait = some 56 := by decide

/-- R180: the removal takes the sent head out. -/
theorem test_fifo_removal :
    (after (exec .fifoRemoval (askingTx (.removeHead false)
      (withLink (fun l => { l with fifo := [⟨0, default⟩, ⟨1, default⟩] }) base)))).link.fifo = [⟨1, default⟩] := by decide

/-- R17, R19: in RUN a step of index 0 makes every enabled slot due, slot 0 among them. -/
theorem test_round_formation :
    ((after (exec .roundFormation (asking (.formation .step (some 0) 40 true)
      (holding [(16, ⟨0x10010000, 0⟩)] (inState .run base))))).sched.round.map (·.due)) = some [0] := by decide +kernel

/-- R122: a reversal sweep frees every index. -/
theorem test_reversal_sweep :
    (after (exec .reversalSweep (asking (.sweep .reversal) (withEntry base)))).trk.order = [] := by decide +kernel

/-- R143: an item exactly at the span stays and one beyond it leaves. -/
theorem test_expiry_span :
    let c := fun (p : Nat) (x : Int) => (⟨p, ⟨3, 0, p, x, .weak⟩⟩ : Placed ConfEntry)
    ((after (exec .expiryTest (asking (.expiry 200 .plus)
      (holding [(2, ⟨0x00000040, 0⟩)]
        { inState .run base with conf := { base.conf with list := [c 0 136, c 1 135] } })))).conf.list.map
        (·.place)) = [0] := by decide

/-- R123, R131: a HALT sweep taken after an END makes its confirmation join, an END sweep does not (log 17). -/
theorem test_halt_sweep_in_ready :
    let swept := fun (c : Instr) (k : ClosureCause) => after (exec c (asking (.sweep k) (withEntry (inState .ready base))))
    let h := swept .haltSweep .halt
    let e := swept .endSweep .runEnd
    h.conf.list.length = 1 ∧ h.rep.records.length = 1 ∧ e.conf.list.length = 0 ∧ e.rep.records.length = 1 := by decide +kernel

/-- R172: a double error that has made the station record absent is not counted again by a shot's processing. -/
theorem test_absent_record_is_not_read :
    let s := holding [(0, ⟨0, 3⟩)] base
    (after (exec .expiryTest (asking (.expiry 200 .plus) s))).link.counts.storeUncorrectable = 0 ∧
      ∀ h, feed h s = s := ⟨by decide +kernel, fun _ => rfl⟩

/-- R171: a free store is granted as the request is raised, and the grant stands when a higher request arises. -/
theorem test_grant_stands :
    let s := after (exec (.closeSetup (fromRecorder [])) (inState .setup base))
    s.store.grant = some .receiver ∧
      (after (exec .step { s with odo := { s.odo with stepReached := true } })).store.grant = some .receiver := by decide

/-- R17, R102: a slot marked store-damaged while its turn's reads waited is skipped STORE. -/
theorem test_turn_of_marked_slot :
    let s := holding [(16, ⟨0x10010000, 0⟩)] (asking (.turn 0 true)
      (withSched (fun u => { u with round := some oneRound, storeDamaged := put u.storeDamaged 0 true }) (inState .run base)))
    let t := after (exec .turnReads s)
    t.sched.shot = none ∧ (t.coup.gaps[(0 : Slot)]).get .store = some ⟨40, 40⟩ := by decide +kernel

/-- R57, R62: the flat-gain mark is read as the record is taken. -/
theorem test_completion_reads_mark :
    (after (exec (.shotCompletion true []) (withSched (fun u => { u with shot := some (oneShot false) })
      { base with gain := { base.gain with flat := put base.gain.flat 0 .order } }))).gain.takenFlat = true := by decide

/-- R167, R168, R186: damage in the word of the status interval, met as it is read, returns the station to SETUP. -/
theorem test_interval_damage :
    let t := after (exec .statusIntervalReached (holding [(7, ⟨0xFFFFFFFF, 3⟩)] (inState .run base)))
    t.link.run = .setup ∧ t.link.present = false := by decide +kernel

/-- R171: a sweep raised during the access of an expiry test waits for its end. -/
theorem test_sweep_waits :
    let s := after (exec .reversal { asking (.expiry 200 .plus) base with odo := { base.odo with revReached := true } })
    (after (exec .reversalSweep s)).store.shotReqs = s.store.shotReqs ∧
      (after (exec .reversalSweep (after (exec .expiryTest s)))).store.shotReqs = [[.expiry 0 .minus]] := by decide +kernel

/-- R170: a formation does not pass an expiry test that arose before it; R139: a sweep's search may. -/
theorem test_expiry_first :
    let two := fun r => withStore (fun u => { u with shotReqs := [[.expiry 200 .plus], [r]], grant := some .shot, grantShots := 2 })
      (inState .run base)
    (after (exec .roundFormation (two (.formation .timer none 40 true)))).sched.round = none ∧
      (after (exec .roundFormation (two (.formation .timer none 40 true)))).store.shotReqs.length = 2 ∧
      (after (exec .haltSweep (two (.sweep .halt)))).store.shotReqs = [[.expiry 200 .plus]] := by decide +kernel

/-- R174: a setup frame granted in RUN is write-aborted after the END that came during its access. -/
theorem test_setup_granted_in_run :
    let s := withStore (fun u => { u with rxReqs := [.slot (zeros [1] 47), .slot (zeros [11] 47)], grant := some .receiver, grantRun := .run })
      (inState .run base)
    let t := after (exec (.endRun (fromRecorder [])) s)
    t.link.run = .ready ∧ (after (exec .setupFrameStore t)).link.run = .ready ∧
      (after (exec .setupFrameStore t)).link.counts.setupRefused = 2 := by decide

/-- R183: damage found in a slot's threshold words clears its gate-off mark and leaves its source INTERFACE. -/
theorem test_close_setup_damage :
    let s := { holding [(26, ⟨0, 3⟩)] (askingRx .checks base) with gates := { base.gates with offI := put base.gates.offI 0 true } }
    let t := after (exec .closeSetupChecks s)
    t.sched.storeDamaged[(0 : Slot)] = true ∧ t.gates.offI[(0 : Slot)] = false ∧ t.coup.slots[(0 : Slot)].source = .interface ∧
      t.coup.slots[(1 : Slot)].source = .none := by decide +kernel

/-! Witnesses: the hypotheses of each statement, met together, one state for each clause. -/

/-- With no changed bit listed, a word reads without one. -/
theorem readSound : ∀ (l : List (Nat × StoreWord)), (∀ c ∈ l, c.2.changed = 0) → ∀ a, (Memory.read l a).changed = 0
  | [], _, _ => rfl
  | (b, w) :: rest, h, a => by
    simp only [Memory.read]
    split
    · exact h (b, w) (List.mem_cons_self ..)
    · exact readSound rest (fun c hc => h c (List.mem_cons_of_mem _ hc)) a

/-- With no changed bit listed, every word stands as last written. -/
theorem sound (s : State) (h : ∀ c ∈ s.store.cells, c.2.changed = 0) : ∀ a, (s.word a).changed = 0 :=
  readSound s.store.cells h

/-- The same for listed words. -/
theorem soundAt (s : State) (h : ∀ c ∈ s.store.cells, c.2.changed = 0) (as : List Nat) : Sound s as := fun a _ => sound s h a

/-- The same with nothing listed. -/
theorem soundEmpty (s : State) (h : s.store.cells = []) (as : List Nat) : Sound s as :=
  soundAt s (by simp [h]) as

theorem test_witness_StepTakesTheQueue :
    { base with pending := [Instr.step] }.pending = Instr.step :: [] ∧ base.pending = [] := by decide

theorem test_witness_LegalTransitionCounts :
    Settled base ∧ (base.odo.ref, 1, Dir.plus) ∈ legalTransitions ∧ (base.odo.ref, 2, Dir.minus) ∈ legalTransitions ∧
      Dir.plus = base.odo.dir ∧ Dir.minus ≠ base.odo.dir := by
  refine ⟨⟨rfl, rfl⟩, ?_, ?_, rfl, ?_⟩ <;> decide

theorem test_witness_IllegalTransitionIsCounted :
    Settled base ∧ (3 : BitVec 2) = ~~~base.odo.ref ∧ (0 : BitVec 2) = base.odo.ref := by
  refine ⟨⟨rfl, rfl⟩, ?_, ?_⟩ <;> decide

/-- A step due at the wrap of the index, in RUN under POSITION. -/
def stepDue : State := inState .run { base with odo := { base.odo with stepReached := true, index := 839 } }

theorem test_witness_StepAndReversalEvents :
    (stepDue.odo.stepReached = true ∧ Sound stepDue [0] ∧ Calm stepDue ∧ stepDue.link.run = .run ∧
      (stationAt stepDue).trigger = .position) ∧
    { base with odo := { base.odo with revReached := true } }.odo.revReached = true :=
  ⟨⟨rfl, soundEmpty _ rfl _, rfl, rfl, by decide⟩, rfl⟩

/-- Requests of every requester at once, the scrub wait count one short of urgent. -/
def allAsk : State :=
  withStore (fun u => { u with shotReqs := [[.processing]], rxReqs := [.checks], txReqs := [.readReport], markerReq := true,
                               scrubReq := true, scrubWait := 3 }) base

theorem test_witness_ArbiterPriority :
    let urgent := fun s : State => s.store.scrubReq = true ∧ (s.store.scrubUrgent = true ∨ 4 ≤ s.store.scrubWait)
    let a := allAsk
    let b := withStore (fun u => { u with shotReqs := [] }) a
    let c := withStore (fun u => { u with rxReqs := [] }) b
    let d := withStore (fun u => { u with txReqs := [] }) c
    let e := withStore (fun u => { u with markerReq := false }) d
    let f := withStore (fun u => { u with grant := some .marker }) a
    urgent (withStore (fun u => { u with scrubWait := 4 }) a) ∧ (¬urgent a ∧ a.store.shotReqs ≠ []) ∧
      (¬urgent b ∧ b.store.shotReqs = [] ∧ b.store.rxReqs ≠ []) ∧
      (¬urgent c ∧ c.store.rxReqs = [] ∧ c.store.txReqs ≠ []) ∧
      (¬urgent d ∧ d.store.txReqs = [] ∧ d.store.markerReq = true) ∧ (¬urgent e ∧ e.store.markerReq = false) ∧
      f.store.grant ≠ none ∧ a.store.grant = none ∧ f.store.clearAtRelease = false ∧ f.store.grant ≠ some .shot ∧
      f.store.grant ≠ some .receiver ∧ f.store.grant ≠ some .transmitter ∧ f.store.grant ≠ some .scrubber ∧
      a.store.grant ≠ some .marker ∧ (base.store.grant = none ∧ nextGrant base = none) ∧ nextGrant a = some .shot ∧
      (takeShot asProcessing (asking .processing base)).isSome = true ∧
      (asking (.expiry 200 .plus) base).store.shotReqs = [.expiry 200 .plus] :: [] := by
  decide

theorem test_witness_UpsetChangesOneWord : MemoryForm base ∧ (1023 : Nat) < 1024 ∧ (1024 : Nat) ≤ 1024 :=
  ⟨rfl, by decide, by decide⟩

/-- The scrubber granted at an address whose word has the bits of a mask changed. -/
def scrubbing (a : Nat) (mask : BitVec 39) (s : State) : State :=
  holding [(a, ⟨0, mask⟩)] (withStore (fun u => { u with grant := some .scrubber, scrubAddr := a }) s)

/-- What every clause of the scrub read asks, for a mask other than 0. -/
theorem scrubbingMeets (a : Nat) (mask : BitVec 39) (s : State) (ha : a ≤ 1023) (hm : mask ≠ 0) (hs : Calm s) :
    (scrubbing a mask s).store.grant = some .scrubber ∧ (scrubbing a mask s).store.scrubAddr ≤ 1023 ∧
      MemoryForm (scrubbing a mask s) ∧ Calm (scrubbing a mask s) ∧
      bitCount 39 ((scrubbing a mask s).word a).changed = bitCount 39 mask := by
  refine ⟨rfl, ha, ?_, hs, ?_⟩
  · simp [MemoryForm, scrubbing, holding, Memory.wf, Memory.wfFrom, clearedWord, storeSize]; exact ⟨decide_eq_true (by omega), hm⟩
  · simp [State.word, scrubbing, holding, Memory.read]

/-- Items of every stored collection at its last place, and every piece written. -/
def stocked : State :=
  let s := inState .hold base
  { s with
    gain := { s.gain with pieces := Vector.replicate 8 (Vector.replicate 4 true) }
    trk := { s.trk with entries := put s.trk.entries 31 (some oneEntry), order := [31] }
    conf := { list := [⟨23, ⟨3, 0, 9, 200, .weak⟩⟩], zones := [⟨7, ⟨199, 8⟩⟩] }
    rep := { records := [⟨15, oneReport 52 1⟩], locked := none }
    mark := { s.mark with marks := [⟨7, ⟨100, .plus, true⟩⟩] }
    link := { s.link with fifo := [⟨0, default⟩, ⟨3, default⟩] } }

theorem test_witness_ScrubReadActsOnItsWord :
    bitCount 39 1 ≤ 1 ∧ bitCount 39 3 = 2 ∧ Calm base ∧ Calm stocked ∧ Settled stocked ∧
    (∀ a ∈ [15, 431, 687, 783, 815, 831, 1007, 1023], notLive (scrubbing a 3 base) a) ∧
    (16 + 24 * (11 : Slot).val ≤ 303 ∧ 303 < 40 + 24 * (11 : Slot).val) ∧
    (304 + 16 * (7 : Area).val + 4 * (3 : Piece).val ≤ 431 ∧ (stocked.gain.pieces[(7 : Area)])[(3 : Piece)] = true ∧
      ∀ n, SoundSlot (scrubbing 431 3 stocked) n [1]) ∧
    (432 + 8 * (31 : Fin 32).val ≤ 687 ∧ stocked.trk.entries[(31 : Fin 32)].isSome = true) ∧
    (∃ x ∈ stocked.conf.list, x.place = 23) ∧ (∃ x ∈ stocked.conf.zones, x.place = 7) ∧
    (stocked.link.fifo = ⟨0, default⟩ :: [⟨3, default⟩] ∧ ∃ x ∈ [(⟨3, default⟩ : Placed WatchOut)], x.place = 3) ∧
    ((∃ x ∈ stocked.rep.records, x.place = 15) ∧ stocked.rep.locked = none) ∧ (∃ x ∈ stocked.mark.marks, x.place = 7) ∧
    stocked.link.present = true := by
  refine ⟨by decide, by decide, rfl, rfl, ⟨rfl, rfl⟩, ?_, by decide, ⟨by decide, by decide, ?_⟩, by decide, by decide,
    by decide, ⟨rfl, by decide⟩, ⟨by decide, rfl⟩, by decide, rfl⟩
  · intro a ha
    simp only [List.mem_cons, List.not_mem_nil, or_false] at ha
    unfold notLive
    obtain rfl | rfl | rfl | rfl | rfl | rfl | rfl | rfl := ha
    · exact .inl ⟨by decide, rfl⟩
    · exact .inr (.inl ⟨7, 3, by decide, by decide, by decide⟩)
    · exact .inr (.inr (.inl ⟨31, by decide, by decide, by decide⟩))
    · exact .inr (.inr (.inr (.inl ⟨23, by decide, by decide, by decide, by decide⟩)))
    · exact .inr (.inr (.inr (.inr (.inl ⟨7, by decide, by decide, by decide, by decide⟩))))
    · exact .inr (.inr (.inr (.inr (.inr (.inl ⟨3, by decide, by decide, by decide, by decide⟩)))))
    · exact .inr (.inr (.inr (.inr (.inr (.inr (.inl ⟨15, by decide, by decide, by decide, by decide⟩))))))
    · exact .inr (.inr (.inr (.inr (.inr (.inr (.inr ⟨7, by decide, by decide, by decide, by decide⟩))))))
  · intro n b hb
    simp only [slotBase, List.map_cons, List.map_nil, List.mem_singleton] at hb
    have h : (431 : Nat) ≠ b := by have := n.isLt; omega
    simp [State.word, scrubbing, holding, Memory.read, h, clearedWord]

/-- A granted marker test with one mark held, in a mode, the output on with a reference 8 tu behind. -/
def testing (mode : MarkerMode) (pos : Int) : State :=
  withStore (fun u => { u with markerReq := true, grant := some .marker })
    (withMark (fun u => { u with marks := [aMark pos .plus true], latest := 100, greatest := 100, mode := mode, on := true,
                                 reference := some 92 }) base)

theorem test_witness_MarkerTestFires :
    (∀ (mode : MarkerMode) (pos : Int), (testing mode pos).store.grant = some .marker ∧
      SoundItems (testing mode pos) markBase 2 (testing mode pos).mark.marks ∧ Calm (testing mode pos)) ∧
    (∀ mode, firesAt (testing mode 100).mark (aMark 100 .plus true).item) ∧
    (∀ mode, ¬firesAt (testing mode 101).mark (aMark 101 .plus true).item) ∧
    ((testing .level 101).mark.length : Int) ≤ |(testing .level 101).mark.latest - 92| ∧
    ¬((testing .level 101).mark.length : Int) ≤ |(testing .level 101).mark.latest - 93| := by
  refine ⟨fun mode pos => ⟨rfl, fun x _ => soundEmpty _ rfl _, rfl⟩, fun mode => ?_, fun mode => ?_, by decide, by decide⟩
  · simp [firesAt, testing, aMark, withMark, withStore]
  · simp [firesAt, testing, aMark, withMark, withStore]

/-- In RUN with a status interval of 1 step, its word's bits changed by a mask. -/
def spaced (mask : BitVec 39) : State := holding [(7, ⟨0x00000100, mask⟩)] (inState .run base)

theorem test_witness_TimerExpiries :
    let a := withMark (fun u => { u with pulseTimer := some 7 }) base
    let b := withSched (fun u => { u with repTimer := some 50 }) (inState .run base)
    let c := inState .run base
    let d := withStore (fun u => { u with scrubReq := true, scrubWait := 4 }) base
    a.mark.pulseTimer = some 7 ∧ (b.link.run = .run ∧ b.sched.repTimer = some 50) ∧
      (base.store.scrubTimer.isSome = true ∧ base.store.scrubReq = false) ∧
      (d.store.scrubTimer.isSome = true ∧ d.store.scrubReq = true ∧ d.store.scrubWait = 4) ∧
      (c.link.run = .run ∧ Sound c [7] ∧ Calm c ∧ (stationAt c).statusInterval ≤ c.link.stepCount) ∧
      ((spaced 0).link.run = .run ∧ Sound (spaced 0) [7] ∧ (spaced 0).link.stepCount < (stationAt (spaced 0)).statusInterval) ∧
      ((spaced 3).link.run = .run ∧ bitCount 39 ((spaced 3).word 7).changed = 2 ∧ (spaced 3).link.present = true ∧
        Settled (spaced 3)) ∧
      base.link.statusTimer.isSome = true :=
  ⟨rfl, ⟨rfl, rfl⟩, ⟨rfl, rfl⟩, ⟨rfl, rfl, rfl⟩, ⟨rfl, soundEmpty _ rfl _, rfl, by decide⟩,
    ⟨rfl, soundAt _ (by simp [spaced, holding]) _, by decide⟩, ⟨rfl, by decide, rfl, rfl, rfl⟩, rfl⟩

/-- A formation granted in a run state, raised in RUN or in an earlier stay there. -/
def forming (isLive : Bool) (r : RunState) : State := asking (.formation .step (some 839) 40 isLive) (inState r base)

theorem test_witness_FormationGathersDueSlots :
    (∀ isLive r, (∃ s1, takeShot asFormation (forming isLive r) = some ((.step, some 839, 40, isLive), s1)) ∧
      (forming isLive r).link.run = r ∧ ∀ n, SoundSlot (forming isLive r) n [0]) ∧ RunState.hold ≠ .run :=
  ⟨fun _ _ => ⟨⟨_, rfl⟩, rfl, fun _ => soundEmpty _ rfl _⟩, by decide⟩

/-- A round due for slots 0 and 1. -/
def twoRound : Round := { origin := .step, index := some 0, pos := 60, due := [0, 1], todo := [0, 1] }

theorem test_witness_NewRoundStartsOrOverruns :
    let a := withSched (fun u => { u with round := some oneRound, pendingRound := some twoRound, shot := some (oneShot false) }) base
    let b := claiming .waiting (withSched (fun u => { u with storeDamaged := put u.storeDamaged 0 true }) base)
    (a.sched.shot = some (oneShot false) ∧ a.sched.round.isSome = true ∧
      (withSched (fun u => { u with round := none }) a).sched.round = none) ∧
    (b.sched.shot = none ∧ b.sched.round = some oneRound ∧ b.rail.claim = .waiting ∧ twoRound.due = [0] ++ 1 :: [] ∧
      (∀ m ∈ [(0 : Slot)], b.sched.storeDamaged[m] = true) ∧ b.sched.storeDamaged[(1 : Slot)] = false) ∧
    (b.sched.shot = none ∧ ∀ m ∈ oneRound.due, b.sched.storeDamaged[m] = true) := by decide

/-- The granted turn of slot 0; word 16 holds its first four bytes. -/
def atTurn (word : Word) : State :=
  holding [(16, ⟨word, 0⟩)] (asking (.turn 0 true) (withSched (fun u => { u with round := some oneRound }) (inState .run base)))

/-- The words of a turn are sound. -/
theorem soundTurn (word : Word) (as : List Nat) : Sound (atTurn word) as :=
  soundAt _ (by simp [atTurn, holding]) as

theorem test_witness_TurnSkipsSlot :
    let s := atTurn 0x10010000
    let marked := withSched (fun u => { u with storeDamaged := put u.storeDamaged 0 true }) s
    let hurt := holding [(16, ⟨0, 3⟩)] s
    let hurtLater := holding [(17, ⟨0, 3⟩)] s
    let faulted := { s with coup := { s.coup with portFault := put s.coup.portFault 0 true } }
    let withdrawn := asking (.turn 0 false) s
    (∃ s1, takeShot asTurn withdrawn = some ((0, false), s1)) ∧ Calm withdrawn ∧ SoundSlot withdrawn 0 [0, 1] ∧
    (∀ u ∈ [marked, hurt, hurtLater, faulted], (∃ s1, takeShot asTurn u = some ((0, true), s1)) ∧ Calm u ∧
      u.sched.round = some oneRound ∧ oneRound.todo = 0 :: [] ∧ u.sched.pendingRound = none) ∧
    (SoundSlot marked 0 [0, 1] ∧ marked.sched.storeDamaged[(0 : Slot)] = true) ∧
    bitCount 39 (hurt.word 16).changed = 2 ∧
    ((hurtLater.word 16).changed = 0 ∧ bitCount 39 (hurtLater.word 17).changed = 2) ∧
    (SoundSlot faulted 0 [0, 1] ∧ faulted.sched.storeDamaged[(0 : Slot)] = false ∧
      faulted.coup.portFault[(slotAt faulted 0).txPort] = true) ∧
    (let on := withSched (fun u => { u with round := some twoRound, pendingRound := some oneRound }) marked
     let past := withSched (fun u => { u with storeDamaged := put u.storeDamaged 1 true }) on
     on.sched.round = some twoRound ∧ twoRound.todo = 0 :: [1] ∧ on.sched.storeDamaged[(1 : Slot)] = false ∧
       past.sched.storeDamaged[(1 : Slot)] = true ∧
       walkOutcome { on.sched with shot := none } (some (twoRound, [1])) = (some { twoRound with todo := [1] }, some oneRound) ∧
       walkOutcome { past.sched with storeDamaged := put base.sched.storeDamaged 1 true } (some (twoRound, [1])) =
         (some oneRound, none)) := by
  refine ⟨⟨_, rfl⟩, rfl, soundTurn _ _, ?_, ⟨soundTurn _ _, by decide⟩, by decide, by decide,
    ⟨soundTurn _ _, by decide, by decide⟩, by decide⟩
  intro u hu
  simp only [List.mem_cons, List.not_mem_nil, or_false] at hu
  obtain rfl | rfl | rfl | rfl := hu <;> exact ⟨⟨_, rfl⟩, rfl, rfl, rfl, rfl⟩

theorem test_witness_LocalTurnFires :
    let s := atTurn 0x10010000
    (∃ s1, takeShot asTurn s = some ((0, true), s1)) ∧ s.sched.round = some oneRound ∧ oneRound.todo = 0 :: [] ∧
      SoundSlot s 0 [0, 1] ∧ Sound s [2] ∧ s.sched.storeDamaged[(0 : Slot)] = false ∧
      s.coup.portFault[(slotAt s 0).txPort] = false ∧ (slotAt s 0).claimsRail = false ∧ Calm s :=
  ⟨⟨_, rfl⟩, rfl, rfl, soundTurn _ _, soundTurn _ _, by decide, by decide, by decide, rfl⟩

theorem test_witness_ClaimingTurnAsksForRail :
    let s := atTurn 0x10030000
    let b := withRail (fun u => { u with others := true, deferral := 2 }) s
    let c := withRail (fun u => { u with others := true, stuck := true }) s
    (∀ u ∈ [s, b, c], (∃ s1, takeShot asTurn u = some ((0, true), s1)) ∧ u.sched.round = some oneRound ∧
      oneRound.todo = 0 :: [] ∧ SoundSlot u 0 [0, 1] ∧ u.sched.storeDamaged[(0 : Slot)] = false ∧
      u.coup.portFault[(slotAt u 0).txPort] = false ∧ (slotAt u 0).claimsRail = true ∧ Calm u ∧ u.rail.claim = .idle) ∧
    (s.rail.stuck = false ∧ ¬(s.rail.drive = true ∨ s.rail.others = true)) ∧
    (b.rail.stuck = false ∧ (b.rail.drive = true ∨ b.rail.others = true)) ∧ (c.rail.stuck = true ∧ Sound c [2]) := by
  refine ⟨?_, by decide, by decide, by decide, soundTurn _ _⟩
  intro u hu
  simp only [List.mem_cons, List.not_mem_nil, or_false] at hu
  obtain rfl | rfl | rfl := hu <;>
    exact ⟨⟨_, rfl⟩, rfl, rfl, soundTurn _ _, by decide, by decide, by decide, rfl, rfl⟩

/-- The question of the shot in flight, at a zone's centre distance. -/
def asksZone (distance : Int) : State :=
  let s := asking (.zone 0 40) (holding [(16, ⟨0x10410000, 0⟩)] (inState .run base))
  withSched (fun u => { u with shot := some (oneShot false) })
    { s with conf := { s.conf with zones := [⟨0, ⟨40 + distance, 8⟩⟩] } }

/-- The words that the question reads are sound. -/
theorem soundZone (d : Int) (as : List Nat) : Sound (asksZone d) as :=
  soundAt _ (by simp [asksZone, withSched, holding, asking]) as

theorem test_witness_InZoneDecidesBoost :
    (∀ d, (∃ s1, takeShot asZone (asksZone d) = some ((0, 40), s1)) ∧ (asksZone d).sched.shot = some (oneShot false) ∧
      (oneShot false).slot = 0 ∧ (oneShot false).firePos = 40 ∧ (oneShot false).decision = none ∧
      (asksZone d).gain.processing = none ∧ (asksZone d).gain.queue = [] ∧ SoundSlot (asksZone d) 0 [0, 4] ∧
      Sound (asksZone d) [5] ∧ SoundItems (asksZone d) zoneBase 4 (asksZone d).conf.zones ∧ Calm (asksZone d)) ∧
    (slotAt (asksZone 8) 0).watchResponse = true ∧ (slotAt (asksZone 8) 0).pa = 0 ∧ (asksZone 8).odo.ps = 0 :=
  ⟨fun d => ⟨⟨_, rfl⟩, rfl, rfl, rfl, rfl, rfl, rfl, soundZone d _, soundZone d _, fun _ _ => soundZone d _, rfl⟩, by decide,
    by decide, rfl⟩

/-- A frame of the recorder to station 0 with a payload its kind requires arrives. -/
theorem arrives (s : State) (kind : Nat) (p : List Byte) (ha : s.link.access ≠ .sending) (hs : s.strap = 0)
    (h : lengthFits kind p.length = true) : FromRecorder s kind (fromRecorder p) :=
  ⟨⟨ha, h, Or.inl (by rw [hs]; rfl)⟩, rfl⟩

theorem test_witness_ArbitrationDelayLength :
    let u := { base.rail with deferral := 1 }
    let v := { base.rail with deferral := 2, claim := .waiting }
    (u.claim = .idle ∧ u.stuck = false ∧ u.drive = false ∧ u.others = false) ∧ v.claim = .waiting ∧
      (2 : Nat) ≤ 2 ∧ (1 : Nat) < 2 := by decide

theorem test_witness_RailLineEvents :
    let a := claiming .delay base
    let b := withRail (fun u => { u with others := true }) (claiming .waiting base)
    let c := withRail (fun u => { u with others := true }) base
    (a.rail.drive = false ∧ a.rail.others = false ∧ a.rail.claim = .delay) ∧
      (base.rail.drive = false ∧ base.rail.others = false ∧ base.rail.claim ≠ .delay) ∧
      (b.rail.drive = false ∧ b.rail.others = true ∧ b.rail.claim = .waiting) ∧
      (c.rail.drive = false ∧ c.rail.others = true ∧ c.rail.claim ≠ .waiting) := by decide

theorem test_witness_GrantFiresClaimSlot :
    let a := claiming .delay base
    let b := withRail (fun u => { u with stuckTimer := some 0 }) (claiming .waiting base)
    let c := withRail (fun u => { u with stuckTimer := some 0 }) base
    (∀ u ∈ [a, b], u.sched.round = some oneRound ∧ oneRound.todo = 0 :: [] ∧ u.sched.turn = some oneTurn ∧
      u.rail.slot = some 0 ∧ Sound u [2] ∧ Calm u) ∧
    (a.rail.claim = .delay ∧ a.rail.drive = false ∧ a.rail.others = false) ∧
    (b.rail.claim = .waiting ∧ b.rail.stuckTimer.isSome = true) ∧
    (c.rail.stuckTimer.isSome = true ∧ c.rail.claim ≠ .waiting) := by
  refine ⟨?_, by decide, by decide, by decide⟩
  intro u hu
  simp only [List.mem_cons, List.not_mem_nil, or_false] at hu
  obtain rfl | rfl := hu <;> exact ⟨rfl, rfl, rfl, rfl, soundEmpty _ rfl _, rfl⟩

theorem test_witness_CompletionDeliversRecord :
    let shots := fun void : Bool => withSched (fun u => { u with shot := some (oneShot void) }) base
    let busy := fun n : Nat =>
      { shots false with gain := { base.gain with processing := some (oneRecord false false true)
                                                  queue := List.replicate n (oneRecord false false true) } }
    let faulted := { shots false with coup := { base.coup with portFault := put base.coup.portFault 0 true } }
    let held := withRail (fun u => { u with claim := .holding, drive := true }) (shots false)
    ((shots true).sched.shot = some (oneShot true) ∧ (oneShot true).void = true ∧ (shots true).sched.round = none ∧
      (shots true).sched.pendingRound = none) ∧
    ((shots false).sched.shot = some (oneShot false) ∧ (oneShot false).void = false ∧ (shots false).gain.processing = none ∧
      (shots false).coup.portFault[(oneShot false).turn.txPort] = false) ∧
    ((busy 3).sched.shot = some (oneShot false) ∧ (busy 3).gain.processing.isSome = true ∧ (busy 3).gain.queue.length < 4) ∧
    ((busy 4).sched.shot = some (oneShot false) ∧ (busy 4).gain.processing.isSome = true ∧ 4 ≤ (busy 4).gain.queue.length) ∧
    (faulted.sched.shot = some (oneShot false) ∧ faulted.coup.portFault[(oneShot false).turn.txPort] = true) ∧
    (held.sched.shot = some (oneShot false) ∧ held.rail.claim = .holding) ∧
    (∀ void : Bool,
      let s := withSched (fun u => { u with round := some twoRound, pendingRound := some oneRound }) (shots void)
      let past := fun l : List Slot => withSched (fun u => { u with
        round := some { twoRound with todo := l }, storeDamaged := put u.storeDamaged 1 true }) s
      s.sched.shot = some (oneShot void) ∧
      walkOutcome { s.sched with shot := none } (some (twoRound, [0, 1])) = (some twoRound, some oneRound) ∧
      walkOutcome { (past [1]).sched with shot := none } (some (twoRound, [1])) = (some oneRound, none) ∧
      walkGap { (past [1]).sched with shot := none } (some (twoRound, [1])) 1 none = some ⟨60, 60⟩) := by decide

theorem test_witness_PeakListHoldsExcursions :
    risingTicks [(0, 4095), (1, 1), (16383, 4096)] = true ∧ (1 : Nat) ≤ 1 ∧ (1 : Nat) ≤ 4095 := by decide

theorem test_witness_SegmentGainTruncates :
    ((1000 : Nat) ≤ 1000 ∧ (1000 : Nat) < 3000 ∧ (0 : Int) ≤ 20) ∧ ((1000 : Nat) ≤ 2999 ∧ (2999 : Nat) < 3000 ∧ (-40 : Int) ≤ 40) := by
  decide

/-- Every piece-written flag set. -/
def allWritten (s : State) : State := { s with gain := { s.gain with pieces := Vector.replicate 8 (Vector.replicate 4 true) } }

/-- A curve of three points, a time of each of its parts, an area that is not complete, and one whose point 15 has two changed
bits. -/
theorem test_witness_GainedPeakRule :
    let pts : List (Nat × Int) := [(1000, 0), (3000, 20), (9000, -40)]
    let s := holding [(319, ⟨0, 3⟩)] (allWritten base)
    pts.Pairwise (fun x y => x.1 < y.1) ∧ (pts = (1000, 0) :: [(3000, 20), (9000, -40)] ∧ (1000 : Nat) ≤ 1000) ∧
    (pts = [(1000, 0), (3000, 20)] ++ [(9000, -40)] ∧ (9000 : Nat) ≤ 9000) ∧ ((3000, 20) : Nat × Int) ∈ pts ∧
    (pts = [(1000, 0)] ++ (3000, 20) :: (9000, -40) :: [] ∧ (3000 : Nat) ≤ 3000 ∧ (3000 : Nat) < 9000) ∧
    (∀ a, written base a = false) ∧
    (∀ a, written (allWritten base) a = true ∧ Sound (allWritten base) ((List.range 16).map (pointAddr a))) ∧
    (written s 0 = true ∧ bitCount 39 (s.word (pointAddr 0 15)).changed = 2 ∧ Sound s ((List.range 15).map (pointAddr 0))) :=
  ⟨by decide, by decide, by decide, by decide, by decide, by decide, fun a => ⟨by revert a; decide, soundEmpty _ rfl _⟩, by decide,
    by decide, by unfold Sound; decide⟩

theorem test_witness_SoundPathDepthAndOffset : (16383 : Nat) ≤ 16383 ∧ (7000 : Nat) ≤ 7000 ∧ (573405 : Nat) ≤ 573405 ∧ (4096 : Nat) ≤ 4096 := by
  decide

theorem test_witness_HitsAreLocated :
    let r := fun st : GateStatus => ({ status := st, window := none, time := some 9, amp := some 300, place := some 1 } : GateResult)
    ((r .present).status ≠ .found ∧ (r .present).status ≠ .loss) ∧ (r .found).status = .found ∧ (r .loss).status = .loss := by
  decide

theorem test_witness_GatesTakeTheirPeaks :
    let x := fun amp : Nat => ((1, { (default : GainedPeak) with time := 100, amp := amp }) : Nat × GainedPeak)
    let inside := fun (w : Nat × Nat) (y : Nat × GainedPeak) => w.1 ≤ y.2.time ∧ y.2.time ≤ w.2
    (inside (100, 100) (x 50) ∧ 50 ≤ (x 50).2.amp ∧ ¬50 ≤ (x 49).2.amp ∧ ¬inside (101, 200) (x 50) ∧ ¬inside (0, 99) (x 50)) ∧
    (let open_ : GateFields := { enable := true, start := 0, stop := 16383, threshold := 50, mode := .first }
     let r := { slotAt base 0 with interfaceSync := true, gateI := open_, gateA := open_, gateB := { open_ with mode := .absence } }
     let shut := { r with gateI := { open_ with enable := false }, gateA := { open_ with enable := false } }
     shut.gateI.enable = false ∧ shut.gateA.enable = false ∧ r.gateI.enable = true ∧ r.gateA.enable = true ∧
       r.gateB.enable = true ∧ (r.interfaceSync = true ∧ false = false) ∧
       (evaluateGates r false false false false [(x 49).2]).noInterface = true ∧
       (evaluateGates r false false false false [(x 50).2]).noInterface = false ∧
       (evaluateGates r false false false false [(x 50).2]).i.time = some 100 ∧ ¬(r.interfaceSync = true ∧ true = false)) := by
  decide +kernel

/-- A record in processing, its access granted, with words of slot 0, taken with a flat-gain mark. -/
def processes (rec : ShotRecord) (cells : List (Nat × StoreWord)) : State :=
  let s := asking .processing (inState .run base)
  holding cells { s with gain := { s.gain with processing := some rec, takenFlat := true } }

/-- A shot in processing without a flat-gain mark, its slot naming area 0 with a curve of gain 10, base gain 12, loss run 2. -/
def curved (rec : ShotRecord) : State :=
  let s := allWritten <| processes rec ([(16, ⟨0x1000000C, 0⟩), (25, ⟨0x00000002, 0⟩)] ++
    (List.range 16).map fun k => (304 + k, ⟨pointWord (k + 1) 10, 0⟩))
  { s with gain := { s.gain with takenFlat := false } }

/-- The same with the flags of its area cleared by a STATION RESET. -/
def unwritten (rec : ShotRecord) : State := { curved rec with gain := { (curved rec).gain with pieces := base.gain.pieces } }

/-- Its words are sound. -/
theorem soundCurved (rec : ShotRecord) (as : List Nat) : Sound (curved rec) as :=
  soundAt (curved rec) (by
    intro c hc
    simp only [curved, allWritten, processes, holding, List.mem_append, List.mem_cons, List.not_mem_nil, or_false, List.mem_map] at hc
    obtain (rfl | rfl) | ⟨k, -, rfl⟩ := hc <;> rfl) as

theorem test_witness_UntrackedShotsAreProcessed :
    (∀ rec ∈ [oneRecord true true true, oneRecord true false true, oneRecord false false false],
      ∀ s ∈ [curved rec, unwritten rec, processes rec [(25, ⟨0x00000002, 0⟩)]],
      (∃ s1, takeShot asProcessing s = some ((), s1)) ∧ s.gain.processing = some rec ∧ SoundSlot s rec.slot (List.range 10) ∧
        SoundCurve s rec.slot ∧ Sound s [0] ∧ Calm s ∧ s.sched.storeDamaged[rec.slot] = false ∧
        s.coup.slots[rec.slot].state = .coupled) ∧
    (curveOf (curved (oneRecord true true true)) 0 = (List.range 16).map fun k => (k + 1, 10)) ∧
    (curveOf (unwritten (oneRecord true true true)) 0 = [] ∧ flatOf (unwritten (oneRecord true true true)) 0 = true ∧
      (unwritten (oneRecord true true true)).gain.takenFlat = false) ∧
    ((oneRecord false false false).transmitted = false ∧ 2 ≤ (slotAt (curved (oneRecord false false false)) 0).lossRun) := by
  refine ⟨?_, by decide +kernel, by decide +kernel, by decide +kernel⟩
  intro rec hr s hs
  have hc : s.sched.storeDamaged[rec.slot] = false ∧ s.coup.slots[rec.slot].state = .coupled := by
    simp only [List.mem_cons, List.not_mem_nil, or_false] at hr hs
    obtain rfl | rfl | rfl := hr <;> obtain rfl | rfl | rfl := hs <;> decide
  simp only [List.mem_cons, List.not_mem_nil, or_false] at hs
  obtain rfl | rfl | rfl := hs
  · exact ⟨⟨_, rfl⟩, rfl, soundCurved _ _, fun _ _ _ => soundCurved _ _, soundCurved _ _, rfl, hc⟩
  · exact ⟨⟨_, rfl⟩, rfl, soundCurved rec _, fun _ _ _ => soundCurved rec _, soundCurved rec _, rfl, hc⟩
  · have h : ∀ as, Sound (processes rec [(25, ⟨0x00000002, 0⟩)]) as := fun as => soundAt _ (by simp [processes, holding]) as
    exact ⟨⟨_, rfl⟩, rfl, h _, fun _ _ _ => h _, h _, rfl, hc⟩

/-- The clauses of a settle shot: a request held for its slot, and gate I with and without a peak; enabled with window 0 to
16383 and threshold 0 it takes the peak at 4095. -/
theorem test_witness_UntrackedShotsAreProcessed_clauses :
    let gateI : Word := 0x00000100
    let cells : List (Nat × StoreWord) := [(20, ⟨gateI, 0⟩), (21, ⟨0x3FFF0000, 0⟩)]
    let shot := oneRecord true true true
    let s := withSched (fun u => { u with request := some 0 }) (processes shot cells)
    s.sched.request = some 0 ∧ (resultsOf s shot).i.time = some 4095 ∧ (resultsOf (processes shot []) shot).i.time = none := by
  decide +kernel

/-- With the coupling of slot 0 as given. -/
def coupledAs (c : SlotCoupling) (s : State) : State := { s with coup := { s.coup with slots := put s.coup.slots 0 c } }

/-- A record of slot 0 in processing, the slot marked store-damaged, with an open STORE gap and a coupling test that passes. -/
def markedShot : State :=
  let s := coupledAs { state := .coupled, failRun := 0, passRun := 0, doubt := none, source := .none }
    (processes (oneRecord false false true) [])
  touchGap 0 .store 5 9 (withSched (fun u => { u with storeDamaged := put u.storeDamaged 0 true, request := some 0 }) s)

/-- R102, R169: the shot of a slot marked store-damaged closes no STORE gap and answers no request; without the mark it does both. -/
theorem test_marked_shot_is_not_tested :
    let run := fun s : State => after (exec .shotProcessing s)
    let u := run (withSched (fun u => { u with storeDamaged := put u.storeDamaged 0 false }) markedShot)
    ((run markedShot).coup.gaps[(0 : Slot)]).get .store = some { fromPos := 5, toPos := 9 } ∧
      (run markedShot).sched.request = some 0 ∧ (run markedShot).gain.processing = none ∧
      (u.coup.gaps[(0 : Slot)]).get .store = none ∧ u.sched.request = none := by decide +kernel

theorem test_witness_SlotDamageEndsWork_marked :
    (∃ s1, takeShot asProcessing markedShot = some ((), s1)) ∧
    markedShot.gain.processing = some (oneRecord false false true) ∧ (oneRecord false false true).slot = 0 ∧
    markedShot.sched.storeDamaged[(0 : Slot)] = true ∧ SoundSlot markedShot 0 (List.range 10) ∧ SoundCurve markedShot 0 ∧
    Calm markedShot :=
  ⟨⟨_, rfl⟩, rfl, rfl, by decide, by unfold SoundSlot Sound; decide, fun h => absurd h (by decide), rfl⟩

/-- Damage in the first and in the last word of the record that a processing reads, and in the thresholds of an open entry. -/
theorem test_witness_SlotDamageEndsWork :
    let s := fun k : Nat => processes (oneRecord false false true) [(16 + k, ⟨0, 3⟩)]
    let u := fun k : Nat => holding [(16 + k, ⟨0, 3⟩)] (withEntry (inState .run base))
    (∀ k ∈ [0, 9], (∃ s1, takeShot asProcessing (s k) = some ((), s1)) ∧
      (s k).gain.processing = some (oneRecord false false true) ∧ bitCount 39 ((s k).word (slotBase 0 + k)).changed = 2 ∧
      SoundSlot (s k) 0 (List.range k) ∧ SoundCurve (s k) 0 ∧ Calm (s k)) ∧
    (∀ k ∈ [10, 11], (u k).trk.entries[(0 : Fin 32)] = some oneEntry ∧ oneEntry.slot = 0 ∧ Sound (u k) [4] ∧
      SoundItems (u k) confBase 4 (u k).conf.list) ∧
    bitCount 39 ((u 10).word (slotBase 0 + 10)).changed = 2 ∧
    (((u 11).word (slotBase 0 + 10)).changed = 0 ∧ bitCount 39 ((u 11).word (slotBase 0 + 11)).changed = 2) := by
  refine ⟨?_, ?_, by decide, by decide⟩
  · intro k hk
    simp only [List.mem_cons, List.not_mem_nil, or_false] at hk
    obtain rfl | rfl := hk <;>
      exact ⟨⟨_, rfl⟩, rfl, by decide, by unfold SoundSlot Sound; decide, fun h => absurd h (by decide), rfl⟩
  · intro k hk
    simp only [List.mem_cons, List.not_mem_nil, or_false] at hk
    obtain rfl | rfl := hk <;>
      exact ⟨rfl, rfl, by unfold Sound; decide, by intro x hx; cases hx⟩

/-- The twelve rows of the state table, each with its runs at the boundary, and a shot that passes and one that fails. -/
theorem test_witness_CouplingTable :
    let amp := fun a : Nat =>
      let peak : GateResult := { status := .found, window := none, time := some 9, amp := some a, place := some 1 }
      ({ i := peak, a := peak, b := peak, noInterface := false } : GateResults)
    let at_ := fun (c : CouplingState) (fails passes : Nat) =>
      coupledAs { state := c, failRun := fails, passRun := passes, doubt := some 7, source := .interface } (withEntry base)
    let runs := fun (loss recovery : Nat) => { slotAt base 0 with couplingThreshold := 10, lossRun := loss, recoveryRun := recovery }
    Calm base ∧ Sound base (List.range 8) ∧ (∀ n : Slot, base.sched.storeDamaged[n] = false) ∧
    (oneRecord false false true).settle = false ∧ (oneRecord true false true).settle = true ∧
    (∀ src ∈ [CouplingSource.interface, .gateB],
      couplingPass src 10 true (amp 10) = true ∧ couplingPass src 10 true (amp 9) = false) ∧
    (∀ c ∈ [CouplingState.coupled, .doubtful, .lost, .recovering], (at_ c 2 2).coup.slots[(0 : Slot)].state = c ∧
      (at_ c 2 2).coup.slots[(0 : Slot)].failRun = 2 ∧ (at_ c 2 2).coup.slots[(0 : Slot)].passRun = 2) ∧
    ((runs 1 1).lossRun ≤ 1 ∧ 2 ≤ (runs 2 2).lossRun ∧ (runs 3 3).lossRun ≤ 2 + 1 ∧ 2 + 1 < (runs 4 4).lossRun ∧
      (runs 1 1).recoveryRun ≤ 1 ∧ 2 ≤ (runs 2 2).recoveryRun ∧ (runs 3 3).recoveryRun ≤ 2 + 1 ∧ 2 + 1 < (runs 4 4).recoveryRun) ∧
    ((at_ .coupled 0 0).trk.entries[(0 : Fin 32)] = some oneEntry ∧ oneEntry.slot = 0) :=
  ⟨rfl, soundEmpty _ rfl _, by decide, by decide, by decide, by decide, by decide, by decide, by decide⟩

theorem test_witness_GapListHandOver :
    let r : GapRecord := { slot := 0, cause := .store, fromPos := 1, toPos := 9, isOpen := true }
    let lists := fun l : List GapRecord => (withLink (fun u => { u with gapList := l }) base).link.gapList
    let mine := fun g : GapRecord => g.isOpen = true ∧ g.slot = r.slot ∧ g.cause = r.cause
    let other := { r with cause := GapCause.port }
    (lists [other, r] = [other] ++ r :: [] ∧ mine r ∧ ∀ h ∈ [other], ¬mine h) ∧
    ((∀ h ∈ lists (List.replicate 7 other), ¬mine h) ∧ (lists (List.replicate 7 other)).length < 8) ∧
    ((∀ h ∈ lists (List.replicate 8 { r with isOpen := false }), ¬mine h) ∧
      8 ≤ (lists (List.replicate 8 { r with isOpen := false })).length) ∧
    ((base.coup.gaps[(0 : Slot)]).get .store = none ∧
      ((skipGap 0 .store 5 base).coup.gaps[(0 : Slot)]).get .store = some ⟨5, 5⟩) := by decide

theorem test_witness_EntriesStaySound :
    (List.range 48).length ≤ 48 ∧ 1 ≤ 65535 ∧ SoundEntry 64 (openedBy 1 (oneHit 500 300)) ∧
      spanWith (openedBy 1 (oneHit 500 300)) (oneHit 564 10) ≤ (64 : Nat) := by
  refine ⟨by decide, by decide, ⟨by decide, by decide, by decide, by decide, ?_⟩, by decide⟩
  intro a b h
  simp [openedBy, oneHit] at h
  omega

/-- A table with every index open, opened in ascending order. -/
def fullTable : State :=
  withTrk (fun u => { u with entries := Vector.replicate 32 (some oneEntry), order := allIndices }) base

/-- The station record of the tracker's witnesses. -/
def windowed : StationRecord := { stationAt base with window := 64, maxSpan := 64 }

/-- The hit 64 tu on matches, and one 65 tu on does not. -/
theorem matchesWithin : hitMatches windowed (oneHit 564 10) oneEntry ∧ ∀ amp, ¬hitMatches windowed (oneHit 565 amp) oneEntry := by
  refine ⟨⟨rfl, rfl, by decide, ?_⟩, fun amp h => absurd h.2.2.1 (by simp [oneHit, oneEntry, openedBy, windowed])⟩
  intro d lo hi hd he
  simp [oneHit, oneEntry, openedBy] at hd he
  omega

theorem test_witness_HitIsOffered :
    (∀ s ∈ [withEntry base, fullTable], MemoryForm s ∧ (∀ a, (s.word a).changed = 0) ∧ Calm s ∧ OrderListsOpen s ∧
      s.rep.records.length ≤ 16 ∧ 1 ≤ s.trk.next ∧ s.trk.next ≤ 65535) ∧
    ((withEntry base).trk.entries[(0 : Fin 32)] = some oneEntry ∧ (∀ j : Fin 32, j ≠ 0 → (withEntry base).trk.entries[j] = none)) ∧
    (max oneEntry.hi 564 - min oneEntry.lo 564 ≤ (windowed.maxSpan : Int) ∧
      (({ windowed with maxSpan := 63 } : StationRecord).maxSpan : Int) < max oneEntry.hi 564 - min oneEntry.lo 564) ∧
    ((withEntry base).trk.entries[(1 : Fin 32)] = none ∧ ∀ j : Fin 32, j < 1 → (withEntry base).trk.entries[j].isSome = true) ∧
    ((∀ j : Fin 32, fullTable.trk.entries[j].isSome = true) ∧ (∀ j : Fin 32, fullTable.trk.entries[j] = some oneEntry) ∧
      fullTable.trk.order = allIndices.take 31 ++ 31 :: [] ∧ oneEntry.peakAmp < 301 ∧ 300 ≤ oneEntry.peakAmp) := by
  refine ⟨?_, by decide, by decide, by decide, by decide⟩
  intro s hs
  simp only [List.mem_cons, List.not_mem_nil, or_false] at hs
  obtain rfl | rfl := hs
  · exact ⟨rfl, sound _ (by simp [withEntry, withTrk, base, State.reset, State.powerOn, StoreUnit.powerOn]), rfl,
      by unfold OrderListsOpen; decide, by decide, by decide, by decide⟩
  · exact ⟨rfl, sound _ (by simp [fullTable, withTrk, base, State.reset, State.powerOn, StoreUnit.powerOn]), rfl,
      by unfold OrderListsOpen; decide +kernel, by decide, by decide, by decide⟩

/-- A shot of a slot with its feed on, in a run state, whose coupling source asks for no amplitude. -/
def tracking (r : RunState) (c : CouplingState) : State :=
  coupledAs { state := c, failRun := 0, passRun := 0, doubt := none, source := .none }
    (inState r (processes (oneRecord false false true) [(16, ⟨0x10210000, 0⟩)]))

theorem test_witness_TrackedShotUpdatesTable :
    (∀ r c, (∃ s1, takeShot asProcessing (tracking r c) = some ((), s1)) ∧
      (tracking r c).gain.processing = some (oneRecord false false true) ∧ (oneRecord false false true).settle = false ∧
      MemoryForm (tracking r c) ∧ (∀ a, ((tracking r c).word a).changed = 0) ∧ Calm (tracking r c) ∧
      (tracking r c).sched.storeDamaged[(oneRecord false false true).slot] = false) ∧
    (∀ c ∈ [CouplingState.coupled, .doubtful], (tracking .run c).coup.slots[(0 : Slot)].state = c ∧
      couplingPass (tracking .run c).coup.slots[(0 : Slot)].source 0 (oneRecord false false true).transmitted
        (evaluateGates (slotAt (tracking .run c) 0) false false false false []) = true) ∧
    ((tracking .run .coupled).link.present = true ∧ (tracking .run .coupled).link.run = .run ∧ (stationAt (tracking .run .coupled)).trigger = .position ∧
      (slotAt (tracking .run .coupled) 0).feed = true) ∧ (tracking .hold .coupled).link.run ≠ .run := by
  refine ⟨fun r c => ⟨⟨_, rfl⟩, rfl, rfl, rfl, sound _ ?_, rfl, rfl⟩, by decide +kernel, by decide +kernel, by decide⟩
  simp [tracking, coupledAs, processes, holding, inState]

/-- A list with an entry of the own station and slot, one beyond the tolerance of 40, and two at that distance: the older of the
two is the source, the own one and the one beyond confirm nothing. -/
theorem test_witness_EvaluationOutcome_source :
    let c := fun (st sl num : Nat) (p : Int) =>
      (⟨num, { station := st, slot := sl, number := num, pos := oneEntry.peakPos + p, mark := .weak }⟩ : Placed ConfEntry)
    let away := fun x : Placed ConfEntry => |oneEntry.peakPos - x.item.pos|
    let confirming := fun x : Placed ConfEntry =>
      ¬(x.item.station = 1 ∧ x.item.slot = oneEntry.slot.val) ∧ away x ≤ ((40 : Nat) : Int)
    let before := [c 1 oneEntry.slot.val 7 0, c 2 0 1 41]
    (∀ x ∈ before, ¬confirming x) ∧ confirming (c 1 11 2 40) ∧
      (∀ y ∈ before, confirming y → away (c 1 11 2 40) < away y) ∧
      (∀ y ∈ [c 3 0 3 (-40)], confirming y → away (c 1 11 2 40) ≤ away y) ∧
      confirmingSource 1 40 oneEntry (before ++ c 1 11 2 40 :: [c 3 0 3 (-40)]) = some (1, 2) := by decide

theorem test_witness_EvaluationOutcome :
    let r := { slotAt base 0 with nrep := 2, nwatch := 1, arep := 400, awatch := 300, asev := 300 }
    (r.nwatch ≤ r.nrep ∧ r.awatch ≤ r.arep) ∧ (r.nwatch ≤ oneEntry.hits ∧ r.awatch ≤ oneEntry.peakAmp) ∧
      ¬(r.nrep ≤ oneEntry.hits ∧ r.arep ≤ oneEntry.peakAmp) := by decide

/-- A granted sweep of a table with one open entry, in a run state. -/
def sweepingIn (r : RunState) (cause : ClosureCause) : State := asking (.sweep cause) (withEntry (inState r base))

/-- The same in HOLD. -/
def sweeping (cause : ClosureCause) : State := sweepingIn .hold cause

theorem test_witness_SweepsEmptyTheTable :
    ∀ x ∈ [(Instr.reversalSweep, ClosureCause.reversal), (.haltSweep, .halt), (.endSweep, .runEnd)],
      (∃ s1, takeShot (asSweep x.2) (sweeping x.2) = some ((), s1)) ∧ Sound (sweeping x.2) (List.range 8) ∧
        Calm (sweeping x.2) ∧ OrderListsOpen (sweeping x.2) := by
  intro x hx
  refine ⟨?_, soundEmpty _ rfl _, rfl, ?_⟩
  · simp at hx
    obtain rfl | rfl | rfl := hx <;> exact ⟨_, rfl⟩
  · have : OrderListsOpen (withEntry base) := by unfold OrderListsOpen; decide
    exact this

theorem test_witness_SweepMakesOutputs :
    (∀ x ∈ [(Instr.reversalSweep, ClosureCause.reversal), (.haltSweep, .halt), (.endSweep, .runEnd)],
      ∀ r, (∃ s1, takeShot (asSweep x.2) (sweepingIn r x.2) = some ((), s1)) ∧ MemoryForm (sweepingIn r x.2) ∧
        (∀ a, ((sweepingIn r x.2).word a).changed = 0) ∧ Calm (sweepingIn r x.2)) ∧
    (let s := sweeping .reversal
     s.trk.entries[(0 : Fin 32)] = some oneEntry ∧ (∀ j : Fin 32, j ≠ 0 → s.trk.entries[j] = none) ∧
       s.rep.records.length < 16 ∧ s.link.run = .hold) ∧
    (let r := fun cells => slotAt (holding cells (sweeping .reversal)) 0
     outcomeOf oneEntry (r []) false = .reportable ∧ (r []).asev ≤ oneEntry.peakAmp ∧
       ¬(r [(27, ⟨0x000003E8, 0⟩)]).asev ≤ oneEntry.peakAmp ∧
       outcomeOf oneEntry (r [(26, ⟨0x3F000000, 0⟩)]) false = .weak ∧
       outcomeOf oneEntry (r [(26, ⟨0x3F3F0000, 0⟩)]) false = .discarded ∧
       (stationAt (holding [(0, ⟨0x08000000, 0⟩)] (sweeping .reversal))).markClass = 1) := by
  refine ⟨?_, by decide, by decide +kernel⟩
  intro x hx r
  refine ⟨?_, rfl, fun _ => rfl, rfl⟩
  simp at hx
  obtain rfl | rfl | rfl := hx <;> exact ⟨_, rfl⟩

/-- Where a closing entry's mark meets the queue: at the gun, near a held mark, in a full queue. -/
theorem test_witness_SweepMakesOutputs_marks :
    let marks := fun l => (withMark (fun u => { u with marks := l }) base).mark
    oneEntry.peakPos = { base.odo with pc := 500 }.pc + base.mark.gunOffset ∧
      (∃ x ∈ (marks [aMark 500 .plus true]).marks, |x.item.pos - oneEntry.peakPos| ≤ ((marks []).spacing : Int)) ∧
      (¬∃ x ∈ (marks (List.replicate 8 (aMark 501 .plus true))).marks,
        |x.item.pos - oneEntry.peakPos| ≤ ((marks []).spacing : Int)) ∧
      8 ≤ (marks (List.replicate 8 (aMark 501 .plus true))).marks.length ∧
      (withLink (fun l => { l with fifo := List.replicate 4 ⟨0, default⟩ }) base).link.fifo.length = 4 := by decide

/-- Both lists with an item, and the granted expiry test of a step at 200, with the station record or without it. -/
def expiring (present : Bool) : State :=
  asking (.expiry 200 .plus)
    { withLink (fun l => { l with present := present }) base with conf := { list := [⟨0, ⟨3, 0, 9, 200, .weak⟩⟩], zones := [⟨0, ⟨199, 8⟩⟩] } }

/-- The lists given, Pc 200, the station span 64. -/
def listing (l : List ConfEntry) (zs : List Int) : State :=
  holding [(2, ⟨0x00000040, 0⟩)]
    { base with
      odo := { base.odo with pc := 200 }
      conf := { list := (List.range l.length).zip l |>.map fun x => ⟨x.1, x.2⟩
                zones := (List.range zs.length).zip zs |>.map fun x => ⟨x.1, ⟨x.2, 8⟩⟩ } }

theorem test_witness_ListsExpireAndJoin :
    (∀ p, (∃ s1, takeShot asExpiry (expiring p) = some ((200, .plus), s1)) ∧ (expiring p).link.present = p ∧
      Sound (expiring p) [2] ∧ SoundItems (expiring p) confBase 4 (expiring p).conf.list ∧
      SoundItems (expiring p) zoneBase 4 (expiring p).conf.zones ∧ Calm (expiring p)) ∧
    (∀ l zs, Sound (listing l zs) [2, 4, 5] ∧ SoundItems (listing l zs) confBase 4 (listing l zs).conf.list ∧
      SoundItems (listing l zs) zoneBase 4 (listing l zs).conf.zones ∧ Settled (listing l zs) ∧ Calm (listing l zs)) ∧
    (stays .plus 200 (stationAt (listing [] [])).span 135 = false ∧ stays .plus 200 (stationAt (listing [] [])).span 136 = true) :=
  have h : ∀ l zs, ∀ c ∈ (listing l zs).store.cells, c.2.changed = 0 := by simp [listing, holding]
  ⟨fun _ => ⟨⟨_, rfl⟩, rfl, soundEmpty _ rfl _, fun _ _ => soundEmpty _ rfl _, fun _ _ => soundEmpty _ rfl _, rfl⟩,
    fun l zs => ⟨soundAt _ (h l zs) _, fun _ _ => soundAt _ (h l zs) _, fun _ _ => soundAt _ (h l zs) _, ⟨rfl, rfl⟩, rfl⟩,
    by decide, by decide⟩

/-- The clauses of the joins: a repeat, a list one short of full, full lists with and without a WEAK entry; a zone near, zones
one short of full, and full with the farthest zone last. -/
theorem test_witness_ListsExpireAndJoin_clauses :
    let e := fun (number : Nat) (m : ConfMark) => (⟨3, 0, number, 136, m⟩ : ConfEntry)
    let many := fun (n : Nat) (m : ConfMark) => (listing ((List.range n).map fun k => e k m) []).conf.list
    let centres := fun n : Nat => (listing [] ((List.range n).map fun k => 200 + 10 * (k : Int))).conf.zones
    (listing [e 9 .weak] []).conf.list = [] ++ ⟨0, e 9 .weak⟩ :: [] ∧
    ((∀ y ∈ many 23 .weak, y.item.number ≠ 99) ∧ (many 23 .weak).length < 24) ∧
    ((∀ y ∈ many 24 .weak, y.item.number ≠ 99) ∧ 24 ≤ (many 24 .weak).length ∧
      ((many 24 .weak).head?.map (·.item.mark)) = some .weak ∧ ((many 24 .weak).map (·.place)).Nodup) ∧
    (24 ≤ (many 24 .reported).length ∧ ∀ y ∈ many 24 .reported, y.item.mark ≠ .weak) ∧
    ((stationAt (listing [] [])).watchHalf = 0 ∧ centres 1 = [] ++ ⟨0, ⟨200, 8⟩⟩ :: []) ∧
    ((∀ y ∈ centres 7, ¬|y.item.centre - 265| ≤ (0 : Int)) ∧ (centres 7).length < 8) ∧
    ((∀ y ∈ centres 8, ¬|y.item.centre - 265| ≤ (0 : Int)) ∧ 8 ≤ (centres 8).length ∧ ((centres 8).map (·.place)).Nodup ∧
      centres 8 = (centres 8).take 7 ++ ⟨7, ⟨270, 8⟩⟩ :: [] ∧
      (∀ y ∈ (centres 8).take 7, y.item.centre - 200 < 270 - 200) ∧ (265 : Int) - 200 < 270 - 200 ∧
      (270 : Int) - 200 ≤ 275 - 200) := by
  decide

/-- A peer's WATCH at its join. -/
def joining (r : RunState) : State := askingRx (.watch 3 (zeros [0] 9)) (inState r base)

theorem test_witness_PeerFrameIsJoined :
    (∀ r, (∃ j s1, takeRx asPeer (joining r) = some (j, s1) ∧ j.railCode = 0) ∧ MemoryForm (joining r) ∧
      Sound (joining r) [0, 2, 4, 5] ∧
      SoundItems (joining r) confBase 4 (joining r).conf.list ∧ SoundItems (joining r) zoneBase 4 (joining r).conf.zones ∧
      Calm (joining r)) ∧
    ((joining .hold).link.present = true ∧ (stationAt (joining .hold)).railRight = false ∧
      (joining .hold).link.run = .hold ∧ (stationAt (joining .hold)).trigger = .position) ∧
    ¬((joining .ready).link.run = .run ∨ (joining .ready).link.run = .hold) :=
  ⟨fun r => ⟨⟨_, _, rfl, by decide⟩, rfl, soundEmpty _ rfl _, fun _ _ => soundEmpty _ rfl _, fun _ _ => soundEmpty _ rfl _, rfl⟩,
    ⟨rfl, by decide, rfl, by decide⟩, by decide⟩

/-- A full report queue of class 1 records. -/
def fullQueue : State :=
  { base with rep := { records := (List.range 16).map fun k => ⟨k, oneReport k 1⟩, locked := some 0 } }

theorem test_witness_FullReportQueueRanks :
    fullQueue.rep.records.length = 16 ∧ SoundItems fullQueue reportBase 11 fullQueue.rep.records ∧
      (∃ y ∈ fullQueue.rep.records.tail, y.item.cls < (oneReport 99 2).cls) ∧
      (∀ y ∈ fullQueue.rep.records.tail, ¬(y.item.cls < (oneReport 99 1).cls ∨
        (y.item.cls = (oneReport 99 1).cls ∧ y.item.peakAmp < (oneReport 99 1).peakAmp))) :=
  ⟨by decide, fun _ _ => soundEmpty _ rfl _, by decide, by decide⟩

theorem test_witness_SetupFramesWaitOrAreRefused :
    FromRecorder base 1 (fromRecorder (zeros [] 31)) ∧
    (FromRecorder base 2 (fromRecorder (zeros [11] 47)) ∧ 11 % 16 ≤ 11) ∧
    (FromRecorder base 2 (fromRecorder (zeros [12] 47)) ∧ 11 < 12 % 16) ∧
    FromRecorder base 3 (fromRecorder (zeros [7, 3] 12)) ∧ FromRecorder base 3 (fromRecorder (zeros [8, 3] 12)) ∧
    FromRecorder base 3 (fromRecorder (zeros [7, 4] 12)) ∧
    (FromRecorder base 4 (fromRecorder []) ∧ base.link.run = .setup) ∧
    (FromRecorder (inState .ready base) 4 (fromRecorder []) ∧ (inState .ready base).link.run ≠ .setup) ∧
    ((∃ r s1, takeRx asSetup (askingRx (.slot []) (inState .hold base)) = some (r, s1)) ∧
      (askingRx (.slot []) (inState .hold base)).store.grantRun = .hold ∧ Calm (askingRx (.slot []) (inState .hold base))) :=
  ⟨arrives _ _ _ (by decide) rfl rfl, ⟨arrives _ _ _ (by decide) rfl rfl, by decide⟩,
    ⟨arrives _ _ _ (by decide) rfl rfl, by decide⟩, arrives _ _ _ (by decide) rfl rfl, arrives _ _ _ (by decide) rfl rfl,
    arrives _ _ _ (by decide) rfl rfl, ⟨arrives _ _ _ (by decide) rfl rfl, rfl⟩,
    ⟨arrives _ _ _ (by decide) rfl rfl, by decide⟩, ⟨_, _, rfl⟩, rfl, rfl⟩

/-- A setup frame waiting for its access in a run state. -/
def storing (r : RxReq) (at_ : RunState) : State := askingRx r (inState at_ base)

theorem test_witness_StationRecordIsStored :
    let s := storing (.station (zeros [] 31)) .ready
    (∃ s1, takeRx asSetup s = some (.station (zeros [] 31), s1)) ∧ (zeros [] 31).length = 31 ∧
      StoresSetup s ∧ MemoryForm s ∧ Calm s :=
  ⟨⟨_, rfl⟩, by decide, ⟨Or.inr rfl, Or.inr rfl⟩, rfl, rfl⟩

theorem test_witness_SlotRecordIsStored :
    let s := storing (.slot (zeros [11] 47)) .setup
    (∃ s1, takeRx asSetup s = some (.slot (zeros [11] 47), s1)) ∧ (zeros [11] 47).length = 48 ∧
      ((zeros [11] 47).getD 0 0).toNat % 16 = (11 : Slot).val ∧ StoresSetup s ∧ MemoryForm s ∧ Calm s :=
  ⟨⟨_, rfl⟩, by decide, by decide, ⟨Or.inl rfl, Or.inl rfl⟩, rfl, rfl⟩

theorem test_witness_CurvePieceIsStored :
    let s := storing (.curve (zeros [7, 3] 12)) .ready
    (∃ s1, takeRx asSetup s = some (.curve (zeros [7, 3] 12), s1)) ∧ (zeros [7, 3] 12).length = 14 ∧
      ((zeros [7, 3] 12).getD 0 0).toNat = (7 : Area).val ∧ ((zeros [7, 3] 12).getD 1 0).toNat = (3 : Piece).val ∧
      StoresSetup s ∧ MemoryForm s ∧ Calm s :=
  ⟨⟨_, rfl⟩, by decide, by decide, by decide, ⟨Or.inr rfl, Or.inr rfl⟩, rfl, rfl⟩

theorem test_witness_CloseSetupChecksDecide :
    let s := storing .checks .setup
    (∃ s1, takeRx asChecks s = some ((), s1)) ∧ s.link.run = .setup ∧ MemoryForm s ∧ Calm s ∧
      Sound s ((List.range 416).map (16 + ·)) ∧ (slotAt s 0).area = some 0 ∧ ∃ b : Piece, (s.gain.pieces[(0 : Area)])[b] = false :=
  ⟨⟨_, rfl⟩, rfl, rfl, rfl, soundEmpty _ rfl _, by decide, ⟨0, by decide⟩⟩

/-- Damage in the first and in the last word of slot 11's record that the checks read. -/
theorem test_witness_CloseSetupChecksDecide_damage :
    ∀ k ∈ [0, 11],
      let s := holding [(slotBase 11 + k, ⟨0, 3⟩)] (storing .checks .setup)
      (∃ s1, takeRx asChecks s = some ((), s1)) ∧ s.link.run = .setup ∧ MemoryForm s ∧ Calm s ∧
        k ∈ [0, 1, 4, 5, 6, 7, 8, 10, 11] ∧ bitCount 39 (s.word (slotBase 11 + k)).changed = 2 ∧
        ∀ a, 16 ≤ a → a < 432 → a ≠ slotBase 11 + k → (s.word a).changed = 0 := by
  intro k hk
  refine ⟨⟨_, rfl⟩, rfl, ?_, rfl, ?_, ?_, ?_⟩
  · simp only [List.mem_cons, List.not_mem_nil, or_false] at hk
    obtain rfl | rfl := hk <;> rfl
  · simp only [List.mem_cons, List.not_mem_nil, or_false] at hk
    obtain rfl | rfl := hk <;> decide
  · simp [State.word, holding, Memory.read]; decide
  · intro a _ _ h
    simp [State.word, holding, Memory.read, Ne.symm h, clearedWord]

/-- The clauses of the checks: an area whose four pieces are written, in order and not in order, and a slot without one. -/
theorem test_witness_CloseSetupChecksDecide_clauses :
    let whole := fun cells : List (Nat × StoreWord) =>
      let s := holding cells (storing .checks .setup)
      { s with gain := { s.gain with pieces := Vector.replicate 8 (Vector.replicate 4 true) } }
    let rising : List (Nat × StoreWord) := (List.range 16).map fun k => (304 + k, ⟨pointWord (k + 1) 0, 0⟩)
    ((slotAt (whole rising) 0).area = some 0 ∧ (∀ b : Piece, ((whole rising).gain.pieces[(0 : Area)])[b] = true) ∧
      (curveAt (whole rising) 0).Pairwise (fun x y => x.1 < y.1)) ∧
    ¬(curveAt (whole []) 0).Pairwise (fun x y => x.1 < y.1) ∧ (slotAt (whole [(17, ⟨0xF0000000, 0⟩)]) 0).area = none := by
  decide +kernel

theorem test_witness_LineEvents :
    let w := withLink (fun l => { l with access := .idleWait, holdOff := true }) base
    let d := withLink (fun l => { l with access := .delay }) base
    let x := withLink (fun l => { l with access := .sending }) base
    let n := withLink (fun l => { l with statusDue := false }) base
    (n.link.access = .idle ∧ n.link.fifo = [] ∧ n.rep.records = [] ∧ n.link.statusDue = false ∧ n.link.partsLeft = [] ∧
      n.link.shotBuf = none) ∧
    (base.link.access ≠ .sending ∧ frameMalformed [0xC3] = true) ∧ x.link.access = .sending ∧
      (w.link.access = .idleWait ∧ w.link.holdOff = true) ∧ d.link.access = .delay ∧
      (base.link.access = .idle ∧ base.link.statusDue = true) ∧ ¬(x.link.access = .idle) := by decide

/-- A frame of station 3 to station 0 arrives. -/
theorem arrivesPeer (kind : Nat) (p : List Byte) (h : lengthFits kind p.length = true) : FromPeer base kind (frameFrom 3 p) :=
  ⟨⟨by decide, h, Or.inl rfl⟩, (by decide : 3 < 8), (by decide : 3 ≠ 0)⟩

theorem test_witness_PeerFramesAndShotRequests :
    FromPeer base 10 (frameFrom 3 (zeros [] 29)) ∧ FromPeer base 11 (frameFrom 3 (zeros [] 10)) ∧
      FromPeer base 12 (frameFrom 3 (zeros [] 41)) ∧ FromPeer base 13 (frameFrom 3 (zeros [] 48)) ∧
      (Arrives base 11 (frameFrom 0 (zeros [] 10)) ∧ (frameFrom 0 (zeros [] 10)).source.toNat = base.strap.val) ∧
      (FromRecorder base 9 (fromRecorder [11]) ∧ ((fromRecorder [11]).payload.getD 0 0).toNat = (11 : Slot).val) ∧
      (FromRecorder base 9 (fromRecorder [12]) ∧ 11 < ((fromRecorder [12]).payload.getD 0 0).toNat) :=
  ⟨arrivesPeer _ _ rfl, arrivesPeer _ _ rfl, arrivesPeer _ _ rfl, arrivesPeer _ _ rfl, ⟨⟨by decide, rfl, Or.inl rfl⟩, rfl⟩,
    ⟨arrives _ _ _ (by decide) rfl rfl, rfl⟩, ⟨arrives _ _ _ (by decide) rfl rfl, by decide⟩⟩

theorem test_witness_ArmsEnterRun :
    let f := fromRecorder (zeros [0, 0x80] 3)
    let g := fromRecorder (zeros [1] 4)
    (∀ r, FromRecorder (inState r base) 5 f ∧ FromRecorder (inState r base) 5 g ∧ (inState r base).link.run = r ∧
      Settled (inState r base) ∧ NoSetupStore (inState r base) ∧ Calm (inState r base) ∧ Sound (inState r base) [0, 1] ∧
      ∀ n, SoundSlot (inState r base) n [2]) ∧
    (f.payload.getD 0 0).toNat = 0 ∧ (g.payload.getD 0 0).toNat = 1 ∧
    (let s := storing (.slot (zeros [11] 47)) .ready
     FromRecorder s 5 f ∧ s.link.run = .ready ∧ (∃ r s1, takeRx asSetup s = some (r, s1)) ∧ StoresSetup s ∧ Settled s ∧
       Calm s) ∧
    (let s := storing (.slot (zeros [11] 47)) .hold
     let u := after (exec .setupFrameStore s)
     FromRecorder s 5 f ∧ FromRecorder s 5 g ∧ s.link.run = .hold ∧ Settled s ∧ Calm s ∧ exec .setupFrameStore s = .next u ∧
       NoSetupStore u) ∧
    (FromRecorder base 5 (fromRecorder (zeros [2] 4)) ∧ 2 ≤ ((fromRecorder (zeros [2] 4)).payload.getD 0 0).toNat) :=
  have h : Access.idle ≠ Access.sending := by decide
  ⟨fun _ => ⟨arrives _ _ _ h rfl rfl, arrives _ _ _ h rfl rfl, rfl, ⟨rfl, rfl⟩, rfl, rfl, soundEmpty _ rfl _,
      fun _ => soundEmpty _ rfl _⟩, rfl, rfl,
    ⟨arrives _ _ _ h rfl rfl, rfl, ⟨_, _, rfl⟩, ⟨Or.inr rfl, Or.inr rfl⟩, ⟨rfl, rfl⟩, rfl⟩,
    ⟨arrives _ _ _ h rfl rfl, arrives _ _ _ h rfl rfl, rfl, ⟨rfl, rfl⟩, rfl, rfl, rfl⟩, arrives _ _ _ h rfl rfl, by decide⟩

/-- A station that a HALT or an END finds with a round in flight, a pending one and a shot. -/
def running (r : RunState) : State :=
  withSched (fun u => { u with round := some oneRound, pendingRound := some twoRound, shot := some (oneShot false) }) (inState r base)

theorem test_witness_HaltHoldsTheRun :
    (FromRecorder (running .run) 6 (fromRecorder []) ∧ (running .run).link.run = .run ∧ Settled (running .run) ∧
      NoSetupStore (running .run)) ∧
    (FromRecorder base 6 (fromRecorder []) ∧ base.link.run ≠ .run) ∧
    (FromRecorder (inState .run base) 6 (fromRecorder []) ∧ (inState .run base).sched.round = none ∧
      (inState .run base).sched.pendingRound = none ∧ NoSetupStore (inState .run base)) :=
  ⟨⟨arrives _ _ _ (by decide) rfl rfl, rfl, ⟨rfl, rfl⟩, rfl⟩, ⟨arrives _ _ _ (by decide) rfl rfl, by decide⟩,
    arrives _ _ _ (by decide) rfl rfl, rfl, rfl, rfl⟩

theorem test_witness_EndClosesTheRun :
    (∀ r, FromRecorder (inState r base) 7 (fromRecorder []) ∧ Settled (inState r base) ∧ NoSetupStore (inState r base) ∧
      (inState r base).link.run = r ∧ (inState r base).sched.round = none ∧ (inState r base).sched.pendingRound = none) ∧
    ∀ r, FromRecorder (running r) 7 (fromRecorder []) ∧ Settled (running r) ∧ NoSetupStore (running r) ∧
      (running r).link.run = r :=
  have h : Access.idle ≠ Access.sending := by decide
  ⟨fun _ => ⟨arrives _ _ _ h rfl rfl, ⟨rfl, rfl⟩, rfl, rfl, rfl, rfl⟩, fun _ => ⟨arrives _ _ _ h rfl rfl, ⟨rfl, rfl⟩, rfl, rfl⟩⟩

theorem test_witness_StationResetClears :
    (FromRecorder base 8 (fromRecorder []) ∧ Settled base ∧ NoSetupStore base) ∧
      (∃ s1, takeRx asClearing (askingRx .clearing base) = some ((), s1)) ∧ Calm (askingRx .clearing base) :=
  ⟨⟨arrives _ _ _ (by decide) rfl rfl, ⟨rfl, rfl⟩, rfl⟩, ⟨_, rfl⟩, rfl⟩

/-- At the end of the access delay, the Link Controller's fields as given. -/
def choosing (f : LinkUnit → LinkUnit) : State := withLink (fun l => { f l with access := .delay }) base

theorem test_witness_SourceIsChosenInOrder :
    let a := choosing fun l => { l with fifo := [⟨0, default⟩] }
    let b := { askingTx (.removeHead false) a with rep := { records := [⟨0, oneReport 52 1⟩], locked := none } }
    let c := choosing fun l => { l with partsLeft := [[]] }
    let d := choosing id
    let e := choosing fun l => { l with statusDue := false, shotBuf := some default }
    let g := choosing fun l => { l with statusDue := false }
    (∀ s ∈ [a, b, c, d, e, g], s.link.access = .delay) ∧
      (a.link.fifo ≠ [] ∧ a.store.txReqs.any (· == .removeHead false) = false) ∧
      (b.store.txReqs.any (· == .removeHead false) = true ∧ b.rep.records = ⟨0, oneReport 52 1⟩ :: []) ∧
      (c.link.fifo = [] ∧ c.rep.records = [] ∧ c.link.partsLeft = [] :: []) ∧
      (d.link.fifo = [] ∧ d.rep.records = [] ∧ d.link.partsLeft = [] ∧ d.link.statusDue = true ∧ (∀ n, SoundSlot d n [0]) ∧
        d.link.gapList.length ≤ 8) ∧
      (e.rep.records = [] ∧ e.link.statusDue = false ∧ e.link.shotBuf = some default) ∧
      (g.link.fifo = [] ∧ g.link.statusDue = false ∧ g.link.shotBuf = none) := by
  refine ⟨?_, by decide, ⟨by decide, rfl⟩, ⟨rfl, rfl, rfl⟩, ⟨rfl, rfl, rfl, rfl, fun _ => soundEmpty _ rfl _, by decide⟩, ⟨rfl, rfl, rfl⟩, rfl, rfl, rfl⟩
  intro s hs
  simp at hs
  obtain rfl | rfl | rfl | rfl | rfl | rfl := hs <;> rfl

/-- A report locked and an entry of the FIFO, with a read waiting. -/
def reading (r : TxReq) : State :=
  askingTx r (withLink (fun l => { l with fifo := [⟨3, default⟩] })
    { base with rep := { records := [⟨15, oneReport 52 1⟩], locked := some 52 } })

theorem test_witness_TransmitterSendsAndMovesOn :
    let sends := fun k : TxKind => withLink (fun l => { l with access := .sending, tx := .sending k [] }) (reading (.removeHead false))
    ((∃ s1, takeTx asRead (reading .readReport) = some (none, s1)) ∧ (reading .readReport).rep.locked = some 52 ∧
      (reading .readReport).rep.records = ⟨15, oneReport 52 1⟩ :: []) ∧
    ((∃ s1, takeTx asRead (reading (.readFifo false)) = some (some false, s1)) ∧
      (reading (.readFifo false)).link.fifo = ⟨3, default⟩ :: []) ∧
    (∃ s1, takeTx asRead (reading (.readFifo true)) = some (some true, s1)) ∧
    (∃ s1, takeTx asRemoval (reading (.removeHead false)) = some (false, s1)) ∧
    (∃ s1, takeTx asRemoval (reading (.removeHead true)) = some (true, s1)) ∧
    (∀ r, Calm (reading r) ∧ Sound (reading r) (wordsFrom (reportBase 15) 11) ∧ Sound (reading r) (wordsFrom (fifoBase 3) 4)) ∧
    ∀ k, (sends k).link.tx = .sending k [] ∧ (sends k).rep.locked = some 52 ∧ (sends k).link.fifo ≠ [] :=
  ⟨⟨⟨_, rfl⟩, rfl, rfl⟩, ⟨⟨_, rfl⟩, rfl⟩, ⟨_, rfl⟩, ⟨_, rfl⟩, ⟨_, rfl⟩, fun _ => ⟨rfl, soundEmpty _ rfl _, soundEmpty _ rfl _⟩,
    fun _ => ⟨rfl, rfl, List.cons_ne_nil _ _⟩⟩

theorem test_witness_FramesCarryTheirFields :
    ((255 : Nat) < 256 ∧ (zeros [] 255).length < 256) ∧
      ((oneReport 65535 1).number ≤ 65535 ∧ (-2147483648 : Int) ≤ (oneReport 65535 1).peakPos ∧
        (oneReport 65535 1).peakPos ≤ 2147483647) ∧
      ∃ w : WatchOut, w.origin ≤ 65535 ∧ w.half ≤ 65535 ∧ w.slot ≤ 255 ∧ -2147483648 ≤ w.centre ∧ w.centre = 2147483647 :=
  ⟨by decide +kernel, by decide, ⟨⟨true, 2147483647, 65535, 65535, 255⟩, by decide⟩⟩

/-- The invariants hold at reset and a step from there, with a command in front, goes on. -/
theorem test_witness_invariants :
    MemoryForm base ∧ OdometryRange base ∧ CountsBounded base ∧ Capacities base ∧ CountersInRange base ∧ OrderListsOpen base ∧
      ∃ t, step { base with pending := [.encoderTransition 3] } = .next t := by
  refine ⟨rfl, ⟨by decide, by decide, by decide⟩, ?_, ?_, ?_, ?_, ⟨_, rfl⟩⟩
  · unfold CountsBounded; decide
  · unfold Capacities; decide
  · unfold CountersInRange; decide
  · unfold OrderListsOpen; decide

end Sys2Proof.Tests
end

section
/-! PROOFS. Track position (01): the power-on values of the odometry and the transitions that make no count. -/

namespace Sys2Proof.Machine

/-! What the two commands do. -/

/-- Power-on keeps nothing of the old state but the queue. -/
theorem exec_powerOnReset_eq (encoder : BitVec 2) (pulled : Bool) (straps : Fin 8) (s : State) :
    exec (.powerOnReset encoder pulled straps) s =
      .next ((State.powerOn encoder pulled straps).withPending s.pending) := rfl

/-- The encoder's command is the decoding of its pair. -/
theorem exec_encoderTransition_eq (pair : BitVec 2) (s : State) :
    exec (.encoderTransition pair) s = execEncoderTransition pair s := rfl

/-- On a settled state no earlier count is left to complete. -/
theorem Settled.settleCount_eq {s : State} (h : Settled s) : settleCount s = s := by
  obtain ⟨hstep, hrev⟩ := h
  exact settleCount_settled hstep hrev

/-! The decoder. -/

/-- R2: the pairs decoded as illegal are those with both lines changed, and no others. -/
theorem decodePair_eq_illegal_iff : ∀ ref pair : BitVec 2, decodePair ref pair = .illegal ↔ pair = ~~~ref := by
  decide

/-- Only the pair that stands already is decoded as no change. -/
theorem decodePair_eq_same_iff : ∀ ref pair : BitVec 2, decodePair ref pair = .same ↔ pair = ref := by
  decide

/-! The transitions that make no count. -/

/-- R2: both lines changed. The pair becomes the reference and the error count rises. -/
theorem exec_encoderTransition_of_illegal {s : State} {pair : BitVec 2} (h : Settled s)
    (hd : decodePair s.odo.ref pair = .illegal) :
    exec (.encoderTransition pair) s =
      .next (({ s with odo := { s.odo with ref := pair } } : State).count addEncoderErrors) := by
  simp only [exec_encoderTransition_eq, execEncoderTransition, h.settleCount_eq, hd]

/-- The pair that stands already leaves the whole state. -/
theorem exec_encoderTransition_of_same {s : State} {pair : BitVec 2} (h : Settled s)
    (hd : decodePair s.odo.ref pair = .same) : exec (.encoderTransition pair) s = .next s := by
  simp only [exec_encoderTransition_eq, execEncoderTransition, h.settleCount_eq, hd]

/-! The statements. -/

/-- Settles O2: every value is the one `Odometry.powerOn` gives, and the store holds no request of a step or a reversal. -/
theorem powerOnOdometry : Obligations.PowerOnOdometry := by
  intro e pulled straps s
  refine ⟨_, exec_powerOnReset_eq e pulled straps s, ?_⟩
  have hodo : (State.powerOn e pulled straps).odo = Odometry.powerOn e := rfl
  have hreqs : (State.powerOn e pulled straps).store.shotReqs = [] := rfl
  simp [hodo, hreqs, Odometry.powerOn]

/-- Settles O6, by what the decoder makes of the pair: the complement of the reference is illegal, the reference is no
change. -/
theorem illegalTransitionIsCounted : Obligations.IllegalTransitionIsCounted := by
  intro s pair h
  constructor
  · intro hboth
    exact exec_encoderTransition_of_illegal h ((decodePair_eq_illegal_iff s.odo.ref pair).mpr hboth)
  · intro hstands
    exact exec_encoderTransition_of_same h ((decodePair_eq_same_iff s.odo.ref pair).mpr hstands)

end Sys2Proof.Machine
end

section
/-! PROOFS. Rail line sharing (03): the arbitration delay, its two starts and the urgent rank. -/

namespace Sys2Proof.Machine

/-! The rank. -/

/-- A claim that has lost two in a row takes the bare station number (R42). -/
theorem rank_of_urgent {deferral : Nat} (strap : Nat) (h : 2 ≤ deferral) : rank strap deferral = strap :=
  if_neg (Nat.not_lt.mpr h)

/-- Any other claim ranks behind all eight station numbers (R42). -/
theorem rank_of_not_urgent {deferral : Nat} (strap : Nat) (h : deferral < 2) : rank strap deferral = strap + 8 :=
  if_pos h

/-- A smaller rank is a shorter delay. -/
theorem arbitrationDelay_lt_iff (a b j k : Nat) :
    arbitrationDelay a j < arbitrationDelay b k ↔ rank a j < rank b k := by
  unfold arbitrationDelay
  omega

/-! The two starts. -/

/-- The delay started is the one of the deferral count at that moment. -/
@[simp] theorem startDelay_delay (strap : Nat) (u : RailUnit) :
    (startDelay strap u).delay = some (arbitrationDelay strap u.deferral) := rfl

/-- The line is seen free exactly when no station pulls it (R39). -/
theorem lineSeen_eq_false_iff (u : RailUnit) : lineSeen u = false ↔ u.drive = false ∧ u.others = false :=
  Bool.or_eq_false_iff

/-- R40: a claim taken in IDLE, STUCK clear and the line seen free, becomes the claim slot and goes to DELAY. -/
theorem takeClaim_of_free (strap : Nat) (n : Slot) {u : RailUnit} (hidle : u.claim = .idle) (hstuck : u.stuck = false)
    (hfree : lineSeen u = false) : takeClaim strap n u = (startDelay strap { u with slot := some n }, false) := by
  simp [takeClaim, hidle, hstuck, hfree]

/-- R41: a release seen in WAITING starts the delay, with the stuck timer stopped and STUCK clear. -/
theorem takeRelease_of_waiting (strap : Nat) {u : RailUnit} (hwait : u.claim = .waiting) :
    takeRelease strap u = startDelay strap { u with stuckTimer := none, stuck := false } :=
  if_pos hwait

/-! The statement. -/

/-- Settles O19: both starts keep the deferral count that the rank is computed from, and an urgent rank is below 8, where
every other rank begins. -/
theorem arbitrationDelayLength : Obligations.ArbitrationDelayLength := by
  refine ⟨?claim, ?release, ?urgent⟩
  case claim =>
    intro strap n u hidle hstuck hdrive hothers
    have hfree : lineSeen u = false := (lineSeen_eq_false_iff u).mpr ⟨hdrive, hothers⟩
    rw [takeClaim_of_free strap.val n hidle hstuck hfree, startDelay_delay, arbitrationDelay, rank]
  case release =>
    intro strap u hwait
    rw [takeRelease_of_waiting strap.val hwait, startDelay_delay, arbitrationDelay, rank]
  case urgent =>
    intro a b j k hj hk
    rw [arbitrationDelay_lt_iff, rank_of_urgent a.val hj, rank_of_not_urgent b.val hk]
    omega

end Sys2Proof.Machine
end

section
/-! PROOFS. Echo reception and gain (04): the gain of a segment, rising, falling and level. -/

namespace Sys2Proof.Machine

/-- A level segment adds nothing, at any time (R64). -/
theorem segmentGain_level (t0 t1 t : Nat) (g : Int) : segmentGain (t0, g) (t1, g) t = g := by
  simp [segmentGain]

/-- The falling segment mirrors the rising one with the gains exchanged: truncation toward zero commutes with the sign (R64). -/
theorem segmentGain_add_segmentGain_swap (t0 t1 t : Nat) (g0 g1 : Int) :
    segmentGain (t0, g0) (t1, g1) t + segmentGain (t0, g1) (t1, g0) t = g0 + g1 := by
  have hneg : (g0 - g1) * ((t : Int) - t0) = -((g1 - g0) * ((t : Int) - t0)) := by ring
  simp only [segmentGain, hneg, Int.neg_tdiv]
  omega

/-- On a rising segment every factor is a natural number, and truncation is their division (R64). -/
theorem segmentGain_of_gain_le {t0 t1 t : Nat} {g0 g1 : Int} (hstart : t0 ≤ t) (hend : t < t1) (hgain : g0 ≤ g1) :
    segmentGain (t0, g0) (t1, g1) t = g0 + ((g1 - g0).toNat * (t - t0) / (t1 - t0) : Nat) := by
  have hrise : g1 - g0 = ((g1 - g0).toNat : Int) := (Int.toNat_of_nonneg (Int.sub_nonneg.mpr hgain)).symm
  have helapsed : (t : Int) - t0 = (t - t0 : Nat) := (Int.natCast_sub hstart).symm
  have hlength : (t1 : Int) - t0 = (t1 - t0 : Nat) := (Int.natCast_sub (hstart.trans hend.le)).symm
  calc segmentGain (t0, g0) (t1, g1) t
      = g0 + ((g1 - g0) * ((t : Int) - t0)).tdiv ((t1 : Int) - t0) := rfl
    _ = g0 + (((g1 - g0).toNat * (t - t0) : Nat) : Int).tdiv (t1 - t0 : Nat) := by
        rw [helapsed, hlength, Int.natCast_mul, ← hrise]
    _ = g0 + ((g1 - g0).toNat * (t - t0) / (t1 - t0) : Nat) := by rw [← Int.ofNat_tdiv]

/-- On a falling segment the fall is subtracted, rounded down in size (R64). -/
theorem segmentGain_of_le_gain {t0 t1 t : Nat} {g0 g1 : Int} (hstart : t0 ≤ t) (hend : t < t1) (hgain : g1 ≤ g0) :
    segmentGain (t0, g0) (t1, g1) t = g0 - ((g0 - g1).toNat * (t - t0) / (t1 - t0) : Nat) := by
  have hmirror := segmentGain_add_segmentGain_swap t0 t1 t g0 g1
  rw [segmentGain_of_gain_le hstart hend hgain] at hmirror
  linarith only [hmirror]

/-- Settles O24: a rising segment is a division of natural numbers, a falling one its mirror image, a level one adds 0; the
three examples are the rule's own numbers. -/
theorem segmentGainTruncates : Obligations.SegmentGainTruncates := by
  refine ⟨fun t0 t1 t g0 g1 hstart hend => ⟨?rising, ?falling, ?level⟩, ?examples⟩
  case rising => exact segmentGain_of_gain_le hstart hend
  case falling => exact segmentGain_of_le_gain hstart hend
  case level =>
    rintro rfl
    exact segmentGain_level t0 t1 t g0
  case examples => decide

end Sys2Proof.Machine
end

section
/-! PROOFS. Gates and hit location (05): the one-way sound path, the depth and the offset, with their ranges. -/

namespace Sys2Proof.Machine

/-! The sound path. -/

/-- The one floor of R86: whole µm of `delta * velocity / 200`, short of the next. -/
theorem soundPath_floor (delta velocity : Nat) :
    soundPath delta velocity * 200 ≤ delta * velocity ∧ delta * velocity < (soundPath delta velocity + 1) * 200 :=
  ⟨Nat.div_mul_le_self _ _, Nat.lt_mul_of_div_lt (Nat.lt_succ_self _) (by decide)⟩

/-- A longer time or a faster sound never shortens the path. -/
theorem soundPath_mono {d d' v v' : Nat} (hd : d ≤ d') (hv : v ≤ v') : soundPath d v ≤ soundPath d' v' :=
  Nat.div_le_div_right (Nat.mul_le_mul hd hv)

/-- The upper end of R86, at the longest time and the fastest sound. -/
theorem soundPath_top : soundPath 16383 7000 = 573405 := rfl

/-! The components of the path. -/

/-- A factor of at most one whole, 4096, gives a component no longer than the path (R87). -/
theorem component_le_path (s : Nat) {f : Nat} (hf : f ≤ 4096) : s * f / 4096 ≤ s :=
  Nat.div_le_of_le_mul (calc
    s * f ≤ s * 4096 := Nat.mul_le_mul_left s hf
    _ = 4096 * s := Nat.mul_comm s 4096)

/-- Along a path of at most `limit` the depth stays at or under that of the whole of `limit` (R87). -/
theorem depthOf_le_of_path_le {s limit f : Nat} (hs : s ≤ limit) (hf : f ≤ 4096) : depthOf s f ≤ (limit + 50) / 100 :=
  Nat.div_le_div_right (Nat.add_le_add_right ((component_le_path s hf).trans hs) 50)

/-- Along a path of at most `limit` the offset stays at or under that of the whole of `limit` (R87). -/
theorem offsetOf_le_of_path_le {s limit f : Nat} (hs : s ≤ limit) (hf : f ≤ 4096) : offsetOf s f ≤ (limit + 62) / 125 :=
  Nat.div_le_div_right (Nat.add_le_add_right ((component_le_path s hf).trans hs) 62)

/-- With `Fd = 0` every reflector lies at depth 0 (R87). -/
@[simp] theorem depthOf_zero (s : Nat) : depthOf s 0 = 0 := by
  simp [depthOf]

/-- With `Fo = 0` every reflector lies straight under the probe (R87). -/
@[simp] theorem offsetOf_zero (s : Nat) : offsetOf s 0 = 0 := by
  simp [offsetOf]

/-! The statement. -/

/-- Settles O26: the path grows with both factors, so its range ends where both do; a component is at most the path, so the
ranges of depth and offset end at the whole of the longest path. -/
theorem soundPathDepthAndOffset : Obligations.SoundPathDepthAndOffset := by
  refine ⟨soundPath_floor, ?pathRange, soundPath_top, fun _ _ => ⟨rfl, rfl⟩, fun s _ => component_le_path s, ?ranges,
    rfl, rfl, fun s => ⟨depthOf_zero s, offsetOf_zero s⟩⟩
  case pathRange =>
    intro d v hd hv
    calc soundPath d v ≤ soundPath 16383 7000 := soundPath_mono hd hv
      _ = 573405 := soundPath_top
  case ranges =>
    intro s f hs hf
    exact ⟨depthOf_le_of_path_le hs hf, offsetOf_le_of_path_le hs hf⟩

end Sys2Proof.Machine
end

section
/-! PROOFS. What every operation keeps: one relation for the six invariants, and its rule for each operation on the store. -/

namespace Sys2Proof.Machine

/-! The relation. -/

/-- Every invariant that the first state meets, the second meets too, each for itself. -/
structure Keeps (s t : State) : Prop where
  memory : MemoryForm s → MemoryForm t
  odometry : OdometryRange s → OdometryRange t
  counts : CountsBounded s → CountsBounded t
  capacities : Capacities s → Capacities t
  counters : CountersInRange s → CountersInRange t
  order : OrderListsOpen s → OrderListsOpen t

/-- The part of the state that the invariants speak of. -/
structure Watched where
  cells : List (Nat × StoreWord)
  pc : Int
  index : Nat
  counts : Counts
  lengths : List Nat
  counters : List Nat
  noTransmit : Vector Nat 8
  order : List (Fin 32)
  entries : Vector (Option Entry) 32

/-- What the invariants see of a state. -/
def State.watched (s : State) : Watched :=
  { cells := s.store.cells, pc := s.odo.pc, index := s.odo.index, counts := s.link.counts
    lengths := [s.conf.list.length, s.conf.zones.length, s.rep.records.length, s.mark.marks.length, s.link.fifo.length,
      s.link.gapList.length, s.gain.queue.length]
    counters := [s.rail.deferral, s.trk.next, s.store.scrubAddr, s.store.scrubWait, s.link.stepCount]
    noTransmit := s.coup.noTransmit, order := s.trk.order, entries := s.trk.entries }

/-- A change of what no invariant speaks of keeps them all. -/
theorem Keeps.of_watched {s t : State} (h : t.watched = s.watched) : Keeps s t := by
  simp only [State.watched, Watched.mk.injEq, List.cons.injEq, and_true] at h
  obtain ⟨hcells, hpc, hindex, hcounts, ⟨hconf, hzones, hrep, hmarks, hfifo, hgaps, hqueue⟩,
    ⟨hdef, hnext, haddr, hwait, hstep⟩, hno, horder, hentries⟩ := h
  constructor
  · simp [MemoryForm, hcells]
  · simp [OdometryRange, hpc, hindex]
  · simp [CountsBounded, hcounts]
  · simp [Capacities, hconf, hzones, hrep, hmarks, hfifo, hgaps, hqueue]
  · simp [CountersInRange, hdef, hnext, haddr, hwait, hstep, hno]
  · simp [OrderListsOpen, horder, hentries]

/-- The same state keeps all. -/
theorem Keeps.refl (s : State) : Keeps s s := .of_watched rfl

/-- One change after the other. -/
theorem Keeps.trans {s t u : State} (h : Keeps s t) (k : Keeps t u) : Keeps s u :=
  ⟨k.memory ∘ h.memory, k.odometry ∘ h.odometry, k.counts ∘ h.counts, k.capacities ∘ h.capacities,
    k.counters ∘ h.counters, k.order ∘ h.order⟩

/-- A last change of what no invariant speaks of. -/
theorem Keeps.trans_watched {s t u : State} (h : Keeps s t) (hw : u.watched = t.watched) : Keeps s u :=
  h.trans (.of_watched hw)

/-- A first change of what no invariant speaks of. -/
theorem Keeps.watched_trans {s t u : State} (h : Keeps t u) (hw : t.watched = s.watched) : Keeps s u :=
  .trans (.of_watched hw) h

/-- A change made over and over. -/
theorem Keeps.foldl {α : Type} {f : State → α → State} (hf : ∀ s a, Keeps s (f s a)) (l : List α) (s : State) :
    Keeps s (l.foldl f s) :=
  foldl_keeps (P := Keeps s) (fun t a h => h.trans (hf t a)) l s (.refl s)

/-- A choice between two changes. -/
theorem Keeps.ite {s t u : State} {p : Prop} [Decidable p] (ht : p → Keeps s t) (hu : ¬p → Keeps s u) :
    Keeps s (if p then t else u) := by
  split
  · exact ht ‹_›
  · exact hu ‹_›

/-! The counts. -/

/-- A change of the counts that passes 255 with none of them. -/
def StopsAt255 (f : Counts → Counts) : Prop := ∀ c : Counts, (∀ n ∈ c.all, n ≤ 255) → ∀ n ∈ (f c).all, n ≤ 255

theorem addReportsLost_stops : StopsAt255 addReportsLost := by
  intro c h; simp_all [Counts.all, addReportsLost, bump]
theorem addWatchesDropped_stops : StopsAt255 addWatchesDropped := by
  intro c h; simp_all [Counts.all, addWatchesDropped, bump]
theorem addTrackerSaturation_stops : StopsAt255 addTrackerSaturation := by
  intro c h; simp_all [Counts.all, addTrackerSaturation, bump]
theorem addMarkerMissed_stops : StopsAt255 addMarkerMissed := by
  intro c h; simp_all [Counts.all, addMarkerMissed, bump]
theorem addStoreCorrected_stops : StopsAt255 addStoreCorrected := by
  intro c h; simp_all [Counts.all, addStoreCorrected, bump]
theorem addStoreUncorrectable_stops : StopsAt255 addStoreUncorrectable := by
  intro c h; simp_all [Counts.all, addStoreUncorrectable, bump]
theorem addCrcErrors_stops : StopsAt255 addCrcErrors := by
  intro c h; simp_all [Counts.all, addCrcErrors, bump]
theorem addSetupRefused_stops : StopsAt255 addSetupRefused := by
  intro c h; simp_all [Counts.all, addSetupRefused, bump]
theorem addEncoderErrors_stops : StopsAt255 addEncoderErrors := by
  intro c h; simp_all [Counts.all, addEncoderErrors, bump]
theorem addUntoldGaps_stops : StopsAt255 addUntoldGaps := by
  intro c h; simp_all [Counts.all, addUntoldGaps, bump]

/-- A count that stops at 255 keeps all. -/
theorem Keeps.count {f : Counts → Counts} (hf : StopsAt255 f) (s : State) : Keeps s (s.count f) :=
  { Keeps.refl s with counts := hf s.link.counts }

/-! The memory and the collections. -/

/-- A write of one word. -/
theorem Keeps.setWord (s : State) (a : Nat) (w : StoreWord) : Keeps s (s.setWord a w) := by
  unfold State.setWord
  split
  · exact { Keeps.refl s with memory := fun h => Memory.write_wf _ _ ‹_› h }
  · exact .refl s

/-- The table changed in what its entries hold, but not in which indices are OPEN. -/
theorem Keeps.entries {s : State} {v : Vector (Option Entry) 32}
    (h : ∀ i : Fin 32, v[i].isSome = s.trk.entries[i].isSome) : Keeps s { s with trk := { s.trk with entries := v } } :=
  { Keeps.refl s with order := fun ho => ⟨ho.1, fun i => by rw [ho.2 i, h i]⟩ }

/-- Reading an index of a table after a change of one of its entries. -/
theorem put_get {α : Type} {n : Nat} (v : Vector α n) (i j : Fin n) (x : α) :
    (put v i x)[j] = if j = i then x else v[j] := by
  simp only [put, Fin.getElem_fin, Vector.getElem_set, Fin.ext_iff, eq_comm]

/-- A collection is no longer without the item of a place. -/
theorem length_without_le {α : Type} (l : List (Placed α)) (p : Nat) : (without l p).length ≤ l.length :=
  List.length_filter_le _ l

/-- A collection is shorter without the item of a place that it holds. -/
theorem length_without_lt {α : Type} {l : List (Placed α)} {x : Placed α} (h : x ∈ l) :
    (without l x.place).length < l.length := by
  refine Nat.lt_of_le_of_ne (length_without_le l _) fun heq => ?_
  have hall := List.length_filter_eq_length_iff.mp heq x h
  simp at hall

/-- A change of one item leaves the length of its collection. -/
@[simp] theorem length_change {α : Type} (l : List (Placed α)) (p : Nat) (f : α → α) : (change l p f).length = l.length :=
  List.length_map _

/-- The confirmation list replaced by one that is no longer. -/
theorem Keeps.setConf {s : State} {l : List (Placed ConfEntry)} (h : l.length ≤ s.conf.list.length) :
    Keeps s (setConf l s) :=
  { Keeps.refl s with capacities := fun hc => ⟨h.trans hc.1, hc.2⟩ }

/-- The watch list replaced by one that is no longer. -/
theorem Keeps.setZones {s : State} {l : List (Placed Zone)} (h : l.length ≤ s.conf.zones.length) :
    Keeps s (setZones l s) :=
  { Keeps.refl s with capacities := fun hc => ⟨hc.1, h.trans hc.2.1, hc.2.2⟩ }

/-- The report queue replaced by one that is no longer. -/
theorem Keeps.setReports {s : State} {r : ReportUnit} (h : r.records.length ≤ s.rep.records.length) :
    Keeps s { s with rep := r } :=
  { Keeps.refl s with capacities := fun hc => ⟨hc.1, hc.2.1, h.trans hc.2.2.1, hc.2.2.2⟩ }

/-- The marker queue replaced by one that is no longer. -/
theorem Keeps.setMark {s : State} {f : MarkerUnit → MarkerUnit} (h : (f s.mark).marks.length ≤ s.mark.marks.length) :
    Keeps s (s.setMark f) :=
  { Keeps.refl s with capacities := fun hc => ⟨hc.1, hc.2.1, hc.2.2.1, h.trans hc.2.2.2.1, hc.2.2.2.2⟩ }

/-- The Link Controller replaced by one of no longer lists, in which neither the counts nor the status step count rise. -/
theorem Keeps.setLink {s : State} {f : LinkUnit → LinkUnit} (hfifo : (f s.link).fifo.length ≤ s.link.fifo.length)
    (hgaps : (f s.link).gapList.length ≤ s.link.gapList.length)
    (hcounts : (f s.link).counts = s.link.counts ∨ (f s.link).counts = Counts.zero)
    (hstep : (f s.link).stepCount ≤ s.link.stepCount) : Keeps s (s.setLink f) where
  memory := id
  odometry := id
  counts h := by
    obtain hc | hc := hcounts
    · simpa [CountsBounded, hc] using h
    · simp [CountsBounded, hc, Counts.all, Counts.zero]
  capacities h := ⟨h.1, h.2.1, h.2.2.1, h.2.2.2.1, hfifo.trans h.2.2.2.2.1, hgaps.trans h.2.2.2.2.2.1, h.2.2.2.2.2.2⟩
  counters h := ⟨h.1, h.2.1, h.2.2.1, h.2.2.2.1, h.2.2.2.2.1, h.2.2.2.2.2.1, hstep.trans h.2.2.2.2.2.2⟩
  order := id

/-! The owners' actions at damage (R167). -/

/-- One read keeps what its actions at damage and at wrong data keep. -/
theorem readWith_keeps {double : State → State} {wrong : BitVec 39 → State → State} (hd : ∀ s, Keeps s (double s))
    (hw : ∀ m s, Keeps s (wrong m s)) (a : Nat) (s : State) : Keeps s (readWith double wrong a s).1 := by
  unfold readWith
  dsimp only
  split
  · exact .refl s
  · have hcorrect (d : Word) : Keeps s ((s.setWord a ⟨d, 0⟩).count addStoreCorrected) :=
      (Keeps.setWord s a _).trans (.count addStoreCorrected_stops _)
    exact .ite (fun _ => (hcorrect _).trans (hw _ _)) fun _ => hcorrect _
  · exact (Keeps.setWord s a _).trans (hw _ _)
  · exact hd s

theorem damageSlot_keeps (n : Slot) (s : State) : Keeps s (damageSlot n s) := .of_watched rfl

theorem setFlat_keeps (n : Slot) (m : FlatGain) (s : State) : Keeps s (setFlat n m s) := .of_watched rfl

theorem readArea_keeps (n : Slot) (s : State) : Keeps s (readArea n s).1 :=
  readWith_keeps (fun s => (Keeps.count addStoreUncorrectable_stops s).trans (damageSlot_keeps n _))
    (fun _ s => .refl s) _ s

theorem damageNaming_keeps (a : Area) (s : State) (n : Slot) : Keeps s (damageNaming a s n) := by
  have hread := readArea_keeps n s
  unfold damageNaming
  split <;> rename_i heq <;> rw [heq] at hread
  · exact hread
  · exact .ite (fun _ => hread.trans (setFlat_keeps n _ _)) fun _ => hread

theorem damageCurve_keeps (a : Area) (p : Piece) (s : State) : Keeps s (damageCurve a p s) := by
  unfold damageCurve
  generalize allSlots = l
  refine Keeps.trans ?_ (.foldl (damageNaming_keeps a) l _)
  exact .of_watched rfl

/-- A freed index leaves the opening order as it leaves the table (R120). -/
theorem freeEntry_keeps (i : Fin 32) (s : State) : Keeps s (freeEntry i s) := by
  refine { Keeps.refl s with order := fun ho => ⟨ho.1.filter _, fun j => ?_⟩ }
  have hget : (freeEntry i s).trk.entries[j] = if j = i then none else s.trk.entries[j] := put_get _ i j none
  rw [hget]
  by_cases hji : j = i <;> simp [freeEntry, hji, ho.2 j]

theorem dropRecord_keeps (p : Nat) (s : State) : Keeps s (dropRecord p s) := .setReports (length_without_le _ p)

theorem damageRecord_keeps (p : Nat) (s : State) : Keeps s (damageRecord p s) :=
  .ite (fun _ => .refl s) fun _ => (dropRecord_keeps p s).trans (.count addReportsLost_stops _)

theorem damageFifo_keeps (p : Nat) (s : State) : Keeps s (damageFifo p s) := by
  refine .ite (fun _ => .refl s) fun _ => .trans ?_ (.count addWatchesDropped_stops _)
  exact Keeps.trans (t := s.setLink fun l => { l with fifo := without l.fifo p })
    (.setLink (length_without_le _ p) le_rfl (.inl rfl) le_rfl) (.of_watched rfl)

theorem damageMark_keeps (p : Nat) (s : State) : Keeps s (damageMark p s) :=
  (Keeps.setMark (f := fun u => { u with marks := without u.marks p }) (length_without_le _ p)).trans
    (.count addMarkerMissed_stops _)

theorem ownerAction_keeps (r : Region) (s : State) : Keeps s (ownerAction r s) := by
  cases r with
  | station => exact .of_watched rfl
  | slot n => exact damageSlot_keeps n s
  | curve a p => exact damageCurve_keeps a p s
  | entry i => exact freeEntry_keeps i s
  | conf p => exact .setConf (length_without_le _ p)
  | zone p => exact .setZones (length_without_le _ p)
  | fifo p => exact damageFifo_keeps p s
  | report p => exact damageRecord_keeps p s
  | mark p => exact damageMark_keeps p s

theorem garbleItem_keeps (r : Region) (k : Nat) (m : BitVec 39) (s : State) : Keeps s (garbleItem r k m s) := by
  cases r with
  | station => exact .refl s
  | slot n => exact .refl s
  | curve a p => exact .refl s
  | entry i =>
    refine .entries fun j => ?_
    rw [put_get]
    by_cases hji : j = i <;> simp [hji]
  | conf p => exact .setConf (by simp)
  | zone p => exact .setZones (by simp)
  | fifo p =>
    exact Keeps.setLink (f := fun l => { l with fifo := change l.fifo p _ }) (by simp) le_rfl (.inl rfl) le_rfl
  | report p => exact .setReports (by simp)
  | mark p => exact Keeps.setMark (f := fun u => { u with marks := change u.marks p _ }) (by simp)

/-! Reads and writes (R166). -/

theorem readDouble_keeps (a : Nat) (s : State) : Keeps s (readDouble a s) :=
  (Keeps.count addStoreUncorrectable_stops s).trans
    (.ite (fun _ => ownerAction_keeps _ _) fun _ => .setWord _ a _)

theorem readWord_keeps (a : Nat) (s : State) : Keeps s (readWord a s).1 :=
  readWith_keeps (readDouble_keeps a) (garbleItem_keeps _ _) a s

theorem readWords_keeps (as : List Nat) (s : State) : Keeps s (readWords as s).1 := by
  induction as generalizing s with
  | nil => exact .refl s
  | cons a rest ih =>
    have hfirst := readWord_keeps a s
    unfold readWords
    split <;> rename_i heq <;> rw [heq] at hfirst
    · exact hfirst
    · have hrest := hfirst.trans (ih _)
      split <;> rename_i heq' <;> rw [heq'] at hrest <;> exact hrest

theorem readOn_keeps (as : List Nat) (s : State) : Keeps s (readOn as s).1 := by
  induction as generalizing s with
  | nil => exact .refl s
  | cons a rest ih =>
    refine Keeps.trans ?_ (ih _)
    split
    · exact .refl s
    · exact readWord_keeps a s

theorem readStation_keeps (ks : List Nat) (s : State) : Keeps s (readStation ks s).1 := by
  have hread := readWords_keeps ks s
  unfold readStation
  split <;> rename_i heq <;> rw [heq] at hread <;> exact hread

theorem readStationOn_keeps (ks : List Nat) (s : State) : Keeps s (readStationOn ks s).1 := readOn_keeps ks s

theorem readStationFor_keeps (on : Bool) (ks : List Nat) (s : State) : Keeps s (readStationFor on ks s).1 := by
  cases on with
  | false => exact readStation_keeps ks s
  | true => exact readStationOn_keeps ks s

theorem readSlot_keeps (n : Slot) (ks : List Nat) (s : State) : Keeps s (readSlot n ks s).1 := by
  have hread := readWords_keeps (ks.map (slotBase n + ·)) s
  unfold readSlot
  split <;> rename_i heq <;> rw [heq] at hread <;> exact hread

theorem readSlotOn_keeps (n : Slot) (ks : List Nat) (s : State) : Keeps s (readSlotOn n ks s).1 := readOn_keeps _ s

theorem readItem_keeps (base size : Nat) (s : State) : Keeps s (readItem base size s) := readWords_keeps _ s

theorem writeWords_keeps (ds : List Word) (a : Nat) (s : State) : Keeps s (writeWords a ds s) := by
  induction ds generalizing a s with
  | nil => exact .refl s
  | cons d rest ih => exact (Keeps.setWord s a _).trans (ih _ _)

theorem writeItem_keeps (base size : Nat) (s : State) : Keeps s (writeItem base size s) := writeWords_keeps _ _ s

/-! Requests and the arbiter. -/

theorem arbitrate_keeps (s : State) : Keeps s (arbitrate s) := by
  obtain ⟨-, h⟩ | ⟨-, -, h⟩ | ⟨g, -, -, h⟩ := arbitrate_cases s <;> rw [h]
  · exact .refl s
  · exact .refl s
  · exact .of_watched rfl

theorem takeShot_keeps {α : Type} {f : ShotReq → Option α} {s t : State} {x : α} (h : takeShot f s = some (x, t)) :
    Keeps s t := by
  obtain ⟨-, left, -, rfl⟩ := takeShot_spec h
  exact .of_watched rfl

theorem takeRx_keeps {α : Type} {f : RxReq → Option α} {s t : State} {x : α} (h : takeRx f s = some (x, t)) :
    Keeps s t := by
  obtain ⟨-, r, rest, -, -, rfl⟩ := takeRx_spec h
  exact .of_watched rfl

theorem takeTx_keeps {α : Type} {f : TxReq → Option α} {s t : State} {x : α} (h : takeTx f s = some (x, t)) :
    Keeps s t := by
  obtain ⟨-, r, rest, -, -, rfl⟩ := takeTx_spec h
  exact .of_watched rfl

end Sys2Proof.Machine
end

section
/-! PROOFS. What every operation of the blocks keeps: odometry, lists, gaps, link, marker, rail, scheduler and run control. -/

namespace Sys2Proof.Machine

/-! The odometry (01). -/

/-- A clamped position lies in the track position range. -/
theorem clampPos_range (x : Int) : -posMax ≤ clampPos x ∧ clampPos x ≤ posMax := by
  unfold clampPos clampInt posMax
  omega

/-- The Odometry Unit replaced by one in its ranges. -/
theorem Keeps.odo {s : State} {o : Odometry}
    (h : OdometryRange s → -posMax ≤ o.pc ∧ o.pc ≤ posMax ∧ o.index ≤ 839) : Keeps s { s with odo := o } :=
  { Keeps.refl s with odometry := h }

theorem offerChange_keeps (oldPc newPc : Int) (s : State) : Keeps s (offerChange oldPc newPc s) := .of_watched rfl

/-- A count leaves the step index and clamps the position. -/
theorem countOdo_range (o : Odometry) (c : Dir) :
    -posMax ≤ (countOdo o c).pc ∧ (countOdo o c).pc ≤ posMax ∧ (countOdo o c).index = o.index := by
  have hrange := clampPos_range (countTarget o c)
  unfold countOdo
  dsimp only
  split <;> exact ⟨hrange.1, hrange.2, rfl⟩

theorem takeCount_keeps (c : Dir) (s : State) : Keeps s (takeCount c s) := by
  obtain ⟨hlow, hhigh, hindex⟩ := countOdo_range s.odo c
  have hcount : Keeps s { s with odo := countOdo s.odo c } := .odo fun h => ⟨hlow, hhigh, hindex ▸ h.2.2⟩
  exact .ite (fun _ => hcount) fun _ => hcount.trans (offerChange_keeps _ _ _)

/-- The step index stays below 840 (R8). -/
theorem nextIndex_le {i : Nat} (h : i ≤ 839) : nextIndex i ≤ 839 := by
  unfold nextIndex
  split <;> omega

theorem stepFormation_keeps (index : Nat) (s : State) : Keeps s (stepFormation index s).1 := by
  unfold stepFormation
  split
  · exact readStationOn_keeps [0] s
  · exact .refl s

theorem raiseTogether_keeps (rs : List ShotReq) (s : State) : Keeps s (raiseTogether rs s) := .of_watched rfl

theorem raise_keeps (r : ShotReq) (s : State) : Keeps s (raise r s) := .of_watched rfl

theorem raiseWith_keeps (n : Nat) (r : ShotReq) (s : State) : Keeps s (raiseWith n r s) := .of_watched rfl

theorem raiseRx_keeps (r : RxReq) (s : State) : Keeps s (raiseRx r s) := .of_watched rfl

theorem raiseTx_keeps (r : TxReq) (s : State) : Keeps s (raiseTx r s) := .of_watched rfl

/-- The step event in the Odometry Unit and the status step count, which stops at 65535 (R8, R186). -/
theorem stepEvent_keeps (s : State) :
    Keeps s { s with
      odo := { s.odo with index := nextIndex s.odo.index, acc := 0, stepReached := false }
      link := { s.link with
        stepCount := if s.link.run = .run then min 65535 (s.link.stepCount + 1) else s.link.stepCount } } :=
  { Keeps.refl s with
    odometry := fun h => ⟨h.1, h.2.1, nextIndex_le h.2.2⟩
    counters := fun h => ⟨h.1, h.2.1, h.2.2.1, h.2.2.2.1, h.2.2.2.2.1, h.2.2.2.2.2.1, by
      have := h.2.2.2.2.2.2
      dsimp only
      split <;> omega⟩ }

theorem takeStep_keeps (s : State) : Keeps s (takeStep s) :=
  ((stepEvent_keeps s).trans (stepFormation_keeps _ _)).trans (raiseTogether_keeps _ _)

theorem takeReversal_keeps (s : State) : Keeps s (takeReversal s) := .of_watched rfl

theorem completeCount_keeps (s : State) : Keeps s (completeCount s) := by
  have hstep : Keeps s (if s.odo.stepReached then takeStep s else s) :=
    .ite (fun _ => takeStep_keeps s) fun _ => .refl s
  exact hstep.trans (.ite (fun _ => takeReversal_keeps _) fun _ => .refl _)

/-! The lists (08). -/

theorem readConf_keeps (s : State) : Keeps s (readConf s) := .foldl (fun s _ => readItem_keeps _ 4 s) _ s

theorem readZones_keeps (s : State) : Keeps s (readZones s) := .foldl (fun s _ => readItem_keeps _ 4 s) _ s

theorem expireConf_keeps (dir : Dir) (pr : Int) (sp : Nat) (s : State) : Keeps s (expireConf dir pr sp s) :=
  (readConf_keeps s).trans (.setConf (List.length_filter_le _ _))

theorem expireZones_keeps (dir : Dir) (pr : Int) (sp : Nat) (s : State) : Keeps s (expireZones dir pr sp s) :=
  (readZones_keeps s).trans (.setZones (List.length_filter_le _ _))

theorem testLists_keeps (pc : Int) (dir : Dir) (s : State) : Keeps s (testLists pc dir s) :=
  .ite (fun _ => ((readStationOn_keeps [2] s).trans (expireConf_keeps _ _ _ _)).trans (expireZones_keeps _ _ _ _))
    fun _ => .refl s

/-- An entry appended to a list that has room for it. -/
theorem appendConf_keeps {s : State} (e : ConfEntry) {l : List (Placed ConfEntry)} (h : Capacities s → l.length < 24) :
    Keeps s (appendConf e (setConf l s)) := by
  refine Keeps.trans ?_ (writeItem_keeps _ 4 _)
  exact { Keeps.refl s with capacities := fun hc => ⟨by simpa using h hc, hc.2⟩ }

/-- The entry that leaves a full list is one of it (R137). -/
theorem evictPlace_mem {l : List (Placed ConfEntry)} {p : Nat} (h : evictPlace l = some p) : ∃ x ∈ l, x.place = p := by
  unfold evictPlace at h
  split at h
  · rename_i x hfind
    exact ⟨x, List.mem_of_find?_eq_some hfind, Option.some.inj h⟩
  · obtain ⟨x, hhead, hplace⟩ := Option.map_eq_some_iff.mp h
    exact ⟨x, List.mem_of_head? hhead, hplace⟩

/-- A list has an entry that leaves unless it is empty (R137). -/
theorem evictPlace_none {l : List (Placed ConfEntry)} (h : evictPlace l = none) : l = [] := by
  unfold evictPlace at h
  split at h
  · cases h
  · exact List.head?_eq_none_iff.mp (Option.map_eq_none_iff.mp h)

theorem placeConf_keeps (e : ConfEntry) (s : State) : Keeps s (placeConf e s) := by
  unfold placeConf
  split
  · exact (Keeps.setConf (by simp)).trans (writeItem_keeps _ 4 _)
  · refine .ite (fun hroom => appendConf_keeps e fun _ => hroom) fun _ => ?_
    split
    · rename_i p hevict
      obtain ⟨x, hx, rfl⟩ := evictPlace_mem hevict
      exact appendConf_keeps e fun hc => (length_without_lt hx).trans_le hc.1
    · rename_i hevict
      exact appendConf_keeps e fun _ => by simp [evictPlace_none hevict]

theorem confJoin_keeps (on : Bool) (e : ConfEntry) (s : State) : Keeps s (confJoin on e s) := by
  have hread := readStationFor_keeps on [2] s
  unfold confJoin
  split <;> rename_i heq <;> rw [heq] at hread
  · exact hread
  · have hexpire (dir : Dir) (pr : Int) (sp : Nat) := hread.trans (expireConf_keeps dir pr sp _)
    exact .ite (fun _ => hexpire _ _ _) fun _ => (hexpire _ _ _).trans (placeConf_keeps _ _)

/-- A zone appended to a list that has room for it. -/
theorem appendZone_keeps {s : State} (z : Zone) {l : List (Placed Zone)} (h : Capacities s → l.length < 8) :
    Keeps s (appendZone z (setZones l s)) := by
  refine Keeps.trans ?_ (writeItem_keeps _ 4 _)
  exact { Keeps.refl s with capacities := fun hc => ⟨hc.1, by simpa using h hc, hc.2.2⟩ }

/-- The zone farthest ahead is one of the list (R142). -/
theorem farthestZone_mem {dir : Dir} {pr : Int} {l : List (Placed Zone)} {x : Placed Zone}
    (h : farthestZone dir pr l = some x) : x ∈ l := by
  induction l generalizing x with
  | nil => cases h
  | cons y rest ih =>
    simp only [farthestZone] at h
    split at h
    · simp_all
    · rename_i z hz
      split at h
      · exact List.mem_cons_of_mem y (ih (hz.trans h))
      · simp_all

theorem placeZone_keeps (dir : Dir) (pr : Int) (wz : Nat) (z : Zone) (s : State) : Keeps s (placeZone dir pr wz z s) := by
  unfold placeZone
  split
  · exact (Keeps.setZones (by simp)).trans (writeItem_keeps _ 4 _)
  · refine .ite (fun hroom => appendZone_keeps z fun _ => hroom) fun _ => ?_
    split
    · rename_i y hfar
      exact .ite
        (fun _ => appendZone_keeps z fun hc => (length_without_lt (farthestZone_mem hfar)).trans_le hc.2.1)
        fun _ => .refl s
    · exact .refl s

theorem zoneOffer_keeps (z : Zone) (s : State) : Keeps s (zoneOffer z s) := by
  have hexpire (dir : Dir) (pr : Int) (sp : Nat) :=
    (readStationOn_keeps [2, 4, 5] s).trans (expireZones_keeps dir pr sp _)
  exact .ite (fun _ => hexpire _ _ _) fun _ => (hexpire _ _ _).trans (placeZone_keeps _ _ _ _ _)

/-! Gaps and port faults (06). -/

/-- The update of an open record leaves the length of the gap list (R188). -/
theorem updateOpen_length {r : GapRecord} {l l' : List GapRecord} (h : updateOpen r l = some l') : l'.length = l.length := by
  induction l generalizing l' with
  | nil => cases h
  | cons g rest ih =>
    simp only [updateOpen] at h
    split at h
    · cases h; rfl
    · obtain ⟨rest', hrest, rfl⟩ := Option.map_eq_some_iff.mp h
      simp [ih hrest]

theorem setUntold_keeps (n : Slot) (c : GapCause) (b : Bool) (s : State) : Keeps s (setUntold n c b s) := .of_watched rfl

theorem handOver_keeps (r : GapRecord) (s : State) : Keeps s (handOver r s) := by
  unfold handOver
  split
  · rename_i l hupdate
    exact Keeps.setLink (f := fun k => { k with gapList := l }) le_rfl (updateOpen_length hupdate).le (.inl rfl) le_rfl
  · refine .ite (fun hroom => Keeps.trans ?_ (setUntold_keeps _ _ _ _)) fun _ => ?_
    · exact { Keeps.refl s with capacities := fun hc => ⟨hc.1, hc.2.1, hc.2.2.1, hc.2.2.2.1, hc.2.2.2.2.1, by
        simpa using hroom, hc.2.2.2.2.2.2⟩ }
    · have hmark : Keeps s (if untoldMark s r.slot r.cause then s
          else setUntold r.slot r.cause true (s.count addUntoldGaps)) :=
        .ite (fun _ => .refl s) fun _ => (Keeps.count addUntoldGaps_stops s).trans (setUntold_keeps _ _ _ _)
      exact .ite (fun _ => hmark) fun _ => hmark.trans (setUntold_keeps _ _ _ _)

theorem setGap_keeps (n : Slot) (c : GapCause) (g : Option Gap) (s : State) : Keeps s (setGap n c g s) := .of_watched rfl

theorem touchGap_keeps (n : Slot) (c : GapCause) (start pos : Int) (s : State) : Keeps s (touchGap n c start pos s) :=
  (setGap_keeps n c _ s).trans (handOver_keeps _ _)

theorem skipGap_keeps (n : Slot) (c : GapCause) (pos : Int) (s : State) : Keeps s (skipGap n c pos s) :=
  touchGap_keeps n c pos pos s

theorem closeGap_keeps (n : Slot) (c : GapCause) (s : State) : Keeps s (closeGap n c s) := by
  unfold closeGap
  split
  · exact .refl s
  · exact (setGap_keeps n c none s).trans (handOver_keeps _ _)

theorem closeGaps_keeps (n : Slot) (s : State) : Keeps s (closeGaps n s) := .foldl (fun s c => closeGap_keeps n c s) _ s

theorem setCoupling_keeps (n : Slot) (c : SlotCoupling) (s : State) : Keeps s (setCoupling n c s) := .of_watched rfl

theorem openCouplingGap_keeps (n : Slot) (firePos : Int) (s : State) : Keeps s (openCouplingGap n firePos s) :=
  (touchGap_keeps n .coupling _ firePos s).trans (setCoupling_keeps n _ _)

/-- The Coupling Monitor replaced by one whose no-transmit counts are in range. -/
theorem Keeps.coup {s : State} {c : CouplingUnit}
    (h : (∀ p : Port, s.coup.noTransmit[p] ≤ 3) → ∀ p : Port, c.noTransmit[p] ≤ 3) : Keeps s { s with coup := c } :=
  { Keeps.refl s with counters := fun hc => ⟨hc.1, h hc.2.1, hc.2.2⟩ }

/-- A no-transmit count set within its range. -/
theorem put_noTransmit_le {v : Vector Nat 8} {q : Port} {x : Nat} (hx : x ≤ 3) (h : ∀ p : Port, v[p] ≤ 3) (p : Port) :
    (put v q x)[p] ≤ 3 := by
  rw [put_get]
  split
  · exact hx
  · exact h p

theorem transmitCheck_keeps (p : Port) (ok : Bool) (s : State) : Keeps s (transmitCheck p ok s) :=
  .ite (fun _ => .refl s) fun _ =>
    .ite (fun _ => .coup (put_noTransmit_le (Nat.zero_le 3))) fun _ => .coup (put_noTransmit_le (Nat.min_le_left 3 _))

/-- A monitor cleared has no-transmit counts 0. -/
theorem coupClear_noTransmit_le (c : CouplingUnit) (p : Port) : (coupClear c).noTransmit[p] ≤ 3 := by
  simp [coupClear]

/-! The Link Controller (11). -/

/-- A change of the Link Controller that leaves its lists, counts and status step count. -/
theorem Keeps.setLink_frame {s : State} {f : LinkUnit → LinkUnit} (hfifo : (f s.link).fifo = s.link.fifo)
    (hgaps : (f s.link).gapList = s.link.gapList) (hcounts : (f s.link).counts = s.link.counts)
    (hstep : (f s.link).stepCount = s.link.stepCount) : Keeps s (s.setLink f) :=
  .setLink (hfifo ▸ le_rfl) (hgaps ▸ le_rfl) (.inl hcounts) hstep.le

theorem linkWake_keeps (s : State) : Keeps s (linkWake s) :=
  .ite (fun _ => .of_watched rfl) fun _ => .refl s

theorem toRest_keeps (s : State) : Keeps s (toRest s) :=
  (Keeps.setLink_frame rfl rfl rfl rfl).trans (linkWake_keeps _)

theorem readPorts_keeps (ns : List Slot) (s : State) : Keeps s (readPorts ns s).1 := by
  induction ns generalizing s with
  | nil => exact .refl s
  | cons n rest ih => exact (readSlotOn_keeps n [0] s).trans (ih _)

theorem buildStatus_keeps (s : State) : Keeps s (buildStatus s) := by
  unfold buildStatus
  exact (readPorts_keeps allSlots s).trans
    (.setLink le_rfl (List.length_filter_le _ _) (.inr rfl) (Nat.zero_le _))

theorem startFrame_keeps (kind : TxKind) (bytes : List Byte) (s : State) : Keeps s (startFrame kind bytes s) :=
  .of_watched rfl

theorem startRead_keeps (r : TxReq) (s : State) : Keeps s (startRead r s) := .of_watched rfl

theorem chooseShot_keeps (s : State) : Keeps s (chooseShot s) := by
  unfold chooseShot
  split
  · exact .of_watched rfl
  · exact toRest_keeps s

theorem chooseStatus_keeps (s : State) : Keeps s (chooseStatus s) := by
  unfold chooseStatus
  split
  · exact .of_watched rfl
  · exact .ite (fun _ => (Keeps.setLink_frame rfl rfl rfl rfl).trans (buildStatus_keeps _)) fun _ => chooseShot_keeps s

theorem chooseReport_keeps (s : State) : Keeps s (chooseReport s) := by
  unfold chooseReport
  split
  · exact .of_watched rfl
  · exact chooseStatus_keeps s

theorem chooseFifo_keeps (s : State) : Keeps s (chooseFifo s) :=
  .ite (fun _ => chooseReport_keeps s) fun _ => startRead_keeps _ s

theorem fifoClear_keeps (s : State) : Keeps s (fifoClear s) := by
  unfold fifoClear
  split
  · exact .setLink (List.length_take_le' _ _) le_rfl (.inl rfl) le_rfl
  · exact Keeps.trans (t := s.setLink fun l => { l with fifo := [] })
      (.setLink (Nat.zero_le _) le_rfl (.inl rfl) le_rfl) (.of_watched rfl)

/-- A frame's reception keeps what its use keeps. -/
theorem receive_keeps (kind : Nat) (f : Frame) {use : State → State} {s : State} (hu : Keeps s (use s)) :
    Keeps s (receive kind f use s) := by
  obtain h | h | h | h := receive_cases kind f use s <;> rw [h]
  · exact .refl s
  · exact .count addCrcErrors_stops s
  · exact .of_watched rfl
  · exact hu

/-! The Marker Unit (09). -/

theorem readMarks_keeps (s : State) : Keeps s (readMarks s) := .foldl (fun s _ => readItem_keeps _ 2 s) _ s

/-- A firing leaves the queue. -/
@[simp] theorem fireMark_marks (pos : Int) (u : MarkerUnit) : (fireMark pos u).marks = u.marks := by
  unfold fireMark
  split <;> rfl

theorem markOffer_keeps (pos : Int) (s : State) : Keeps s (markOffer pos s) := by
  refine .ite (fun _ => .setMark (by simp)) fun _ => ?_
  refine .ite (fun _ => readMarks_keeps s) fun _ => .ite (fun hroom => ?_) fun _ => ?_
  · refine (readMarks_keeps s).trans (Keeps.trans ?_ (writeItem_keeps _ 2 _))
    exact { Keeps.refl (readMarks s) with
      capacities := fun hc => ⟨hc.1, hc.2.1, hc.2.2.1, by simpa using hroom, hc.2.2.2.2⟩ }
  · exact (readMarks_keeps s).trans (.count addMarkerMissed_stops _)

/-- A test only takes marks out of the queue. -/
theorem testMarks_length_le (u : MarkerUnit) : (testMarks u).marks.length ≤ u.marks.length := by
  simp only [testMarks, List.length_map]
  exact List.length_filter_le _ _

/-! The Rail Claim Unit (03). -/

/-- The Rail Claim Unit replaced by one whose deferral count is in range. -/
theorem Keeps.rail {s : State} {u : RailUnit} (h : s.rail.deferral ≤ 15 → u.deferral ≤ 15) : Keeps s { s with rail := u } :=
  { Keeps.refl s with counters := fun hc => ⟨h hc.1, hc.2⟩ }

theorem takeClaim_deferral {strap : Nat} {n : Slot} {u : RailUnit} (h : u.deferral ≤ 15) :
    (takeClaim strap n u).1.deferral ≤ 15 := by
  unfold takeClaim
  dsimp only
  split
  · split
    · exact Nat.zero_le 15
    · split <;> exact h
  · exact h

theorem takeAssertion_deferral {u : RailUnit} (h : u.deferral ≤ 15) : (takeAssertion u).deferral ≤ 15 := by
  unfold takeAssertion
  split
  · exact Nat.min_le_left 15 _
  · exact h

theorem takeRelease_deferral (strap : Nat) (u : RailUnit) : (takeRelease strap u).deferral = u.deferral := by
  unfold takeRelease
  dsimp only
  split <;> rfl

theorem ownRelease_deferral (u : RailUnit) : (ownRelease u).deferral = u.deferral := by
  unfold ownRelease
  dsimp only
  split <;> rfl

theorem abandonClaim_deferral (u : RailUnit) : (abandonClaim u).deferral = u.deferral := by
  unfold abandonClaim
  split <;> rfl

/-! The Slot Scheduler (02). -/

theorem setSched_keeps (f : Scheduler → Scheduler) (s : State) : Keeps s (s.setSched f) := .of_watched rfl

theorem skipAll_keeps (c : GapCause) (pos : Int) (ns : List Slot) (s : State) : Keeps s (skipAll c pos ns s) :=
  .foldl (fun s n => skipGap_keeps n c pos s) ns s

theorem walkOn_keeps (r : Round) (ns : List Slot) (s : State) : Keeps s (walkOn r ns s) := by
  induction ns generalizing s with
  | nil => exact setSched_keeps _ s
  | cons n rest ih =>
    unfold walkOn
    exact .ite (fun _ => (skipGap_keeps n .store r.pos s).trans (ih _)) fun _ => .of_watched rfl

theorem startPending_keeps (s : State) : Keeps s (startPending s) := by
  unfold startPending
  split
  · exact (setSched_keeps _ s).trans (walkOn_keeps _ _ _)
  · exact .refl s

theorem walkAgain_keeps (s : State) : Keeps s (walkAgain s) := by
  unfold walkAgain
  split
  · exact (walkOn_keeps _ _ s).trans (startPending_keeps _)
  · exact (setSched_keeps _ s).trans (startPending_keeps _)

theorem skipTurn_keeps (c : GapCause) (s : State) : Keeps s (skipTurn c s) := by
  unfold skipTurn
  split
  · split
    · exact ((skipGap_keeps _ c _ s).trans (walkOn_keeps _ _ _)).trans (startPending_keeps _)
    · exact .refl s
  · exact .refl s

theorem fire_keeps (unclaimed : Bool) (s : State) : Keeps s (fire unclaimed s) := by
  unfold fire
  split
  · split
    · exact .refl s
    · exact (readStationOn_keeps [2] s).trans (.of_watched rfl)
  · exact .refl s

theorem claimTurn_keeps (n : Slot) (s : State) : Keeps s (claimTurn n s) := by
  have hclaim : Keeps s (({ s with rail := (takeClaim s.strap.val n s.rail).1 } : State).setSched fun u =>
      { u with walk := .claiming }) :=
    (Keeps.rail takeClaim_deferral).trans (setSched_keeps _ _)
  exact .ite (fun _ => hclaim.trans (fire_keeps true _)) fun _ => hclaim

theorem staleTurns_keeps (s : State) : Keeps s (staleTurns s) := .of_watched rfl

theorem staleFormations_keeps (s : State) : Keeps s (staleFormations s) := .of_watched rfl

theorem endRound_keeps (handOn : Bool) (s : State) : Keeps s (endRound handOn s) := by
  have hskip : Keeps s (match s.sched.round with
      | some r => if handOn then skipAll .overrun r.pos r.todo s else s
      | none => s) := by
    split
    · exact .ite (fun _ => skipAll_keeps _ _ _ s) fun _ => .refl s
    · exact .refl s
  refine hskip.trans (Keeps.trans ?_ (staleTurns_keeps _))
  exact (Keeps.rail (abandonClaim_deferral _).trans_le).trans (setSched_keeps _ _)

theorem dropPending_keeps (handOn : Bool) (s : State) : Keeps s (dropPending handOn s) := by
  have hskip : Keeps s (match s.sched.pendingRound with
      | some p => if handOn then skipAll .overrun p.pos p.due s else s
      | none => s) := by
    split
    · exact .ite (fun _ => skipAll_keeps _ _ _ s) fun _ => .refl s
    · exact .refl s
  unfold dropPending
  exact hskip.trans (setSched_keeps _ _)

theorem newRound_keeps (r : Round) (s : State) : Keeps s (newRound r s) := by
  have hend : Keeps s (if s.sched.round.isSome then endRound true s else s) :=
    .ite (fun _ => endRound_keeps true s) fun _ => .refl s
  exact .ite (fun _ => (hend.trans (dropPending_keeps true _)).trans (setSched_keeps _ _))
    fun _ => hend.trans (walkOn_keeps _ _ _)

theorem leaveRun_keeps (handOn : Bool) (s : State) : Keeps s (leaveRun handOn s) :=
  (((endRound_keeps handOn s).trans (dropPending_keeps handOn _)).trans (setSched_keeps _ _)).trans
    (staleFormations_keeps _)

theorem loadWedge_keeps (s : State) (n : Slot) : Keeps s (loadWedge s n) := by
  unfold loadWedge
  exact (readSlotOn_keeps n [2] s).trans (setSched_keeps _ _)

theorem armTimer_keeps (s : State) : Keeps s (armTimer s) := by
  unfold armTimer
  exact (readStationOn_keeps [0, 1] s).trans (setSched_keeps _ _)

theorem deliverRecord_keeps (n : Nat) (rec : ShotRecord) (s : State) : Keeps s (deliverRecord n rec s) := by
  unfold deliverRecord
  split
  · exact .of_watched rfl
  · refine .ite (fun hroom => ?_) fun _ => skipGap_keeps _ _ _ s
    exact { Keeps.refl s with capacities := fun hc =>
      ⟨hc.1, hc.2.1, hc.2.2.1, hc.2.2.2.1, hc.2.2.2.2.1, hc.2.2.2.2.2.1, by simpa using hroom⟩ }

theorem completeChecks_keeps (sh : Shot) (transmitted : Bool) (s : State) : Keeps s (completeChecks sh transmitted s) :=
  .ite (fun _ => (transmitCheck_keeps _ _ s).trans (setSched_keeps _ _)) fun _ => transmitCheck_keeps _ _ s

/-- The release of the line, and the end of the listening, at a completion (R25, R45). -/
theorem releaseLine_keeps (s : State) :
    Keeps s { s with rail := if s.rail.claim = .holding then ownRelease s.rail else s.rail
                     gain := { s.gain with listening := none } } := by
  refine Keeps.trans (t := { s with rail := if s.rail.claim = .holding then ownRelease s.rail else s.rail })
    (.rail fun h => ?_) (.of_watched rfl)
  split
  · exact (ownRelease_deferral _).trans_le h
  · exact h

theorem completeShot_keeps (sh : Shot) (transmitted : Bool) (samples : List (Nat × Nat)) (s : State) :
    Keeps s (completeShot sh transmitted samples s) := by
  unfold completeShot
  extract_lets floor gain s1 s2 s3
  have hchecks : Keeps s1 s2 := .ite (fun _ => .refl s1) fun _ => completeChecks_keeps sh transmitted s1
  have hwalk : Keeps s s3 :=
    (((releaseLine_keeps s).trans hchecks).trans (setSched_keeps _ _)).trans (walkAgain_keeps _)
  exact .ite (fun _ => hwalk) fun _ => hwalk.trans (deliverRecord_keeps _ _ _)

/-! Run control (11). -/

theorem setRun_keeps (r : RunState) (s : State) : Keeps s (setRun r s) :=
  .setLink le_rfl le_rfl (.inl rfl) (Nat.zero_le _)

/-- The tracker emptied: no index is OPEN and the next number is 1 (R134). -/
theorem emptyTracker_keeps (s : State) : Keeps s { s with trk := TrackerUnit.powerOn } :=
  { Keeps.refl s with
    counters := fun hc => ⟨hc.1, hc.2.1, le_rfl, (by decide : 1 ≤ 65535), hc.2.2.2.2⟩
    order := fun _ => ⟨List.nodup_nil, fun i => by simp [TrackerUnit.powerOn]⟩ }

/-- Both lists emptied (R149, R150). -/
theorem emptyConf_keeps (s : State) : Keeps s { s with conf := ConfUnit.powerOn } :=
  { Keeps.refl s with capacities := fun hc => ⟨Nat.zero_le _, Nat.zero_le _, hc.2.2⟩ }

theorem clearCollections_keeps (s : State) : Keeps s (clearCollections s) := by
  refine Keeps.trans ?_ (fifoClear_keeps _)
  exact (((emptyTracker_keeps s).trans (emptyConf_keeps _)).trans
    (Keeps.setReports (r := ReportUnit.powerOn) (Nat.zero_le _))).trans (Keeps.setMark (f := markClear) (Nat.zero_le _))

/-- The step index and the counts of the odometry go to 0 (R15). -/
theorem odoStationReset_keeps (s : State) : Keeps s { s with odo := odoStationReset s.odo } :=
  .odo fun h => ⟨h.1, h.2.1, Nat.zero_le _⟩

/-- The blocks at a STATION RESET, one after the other (R185). -/
theorem stationReset_keeps (s : State) : Keeps s (stationReset s) := by
  unfold stationReset
  extract_lets s1
  have hleave : Keeps s s1 := (leaveRun_keeps false s).trans (fifoClear_keeps _)
  have hodo := hleave.trans (odoStationReset_keeps s1)
  have hrail := hodo.trans (.rail (u := { s1.rail with deferral := 0 }) fun _ => Nat.zero_le 15)
  have hcoup := hrail.trans (.coup (c := coupClear s1.coup) fun _ => coupClear_noTransmit_le s1.coup)
  have hlink := hcoup.trans (.setLink (f := linkReset) le_rfl (Nat.zero_le _) (.inr rfl) (Nat.zero_le _))
  exact hlink.trans (.of_watched rfl)

theorem stationClear_keeps (s : State) : Keeps s (stationClear s) :=
  ((completeCount_keeps s).trans (stationReset_keeps _)).trans (clearCollections_keeps _)

theorem clearDamage_keeps (s : State) : Keeps s (clearDamage s) := by
  refine .ite (fun _ => (stationClear_keeps s).trans (Keeps.trans ?_ (linkWake_keeps _))) fun _ => .refl s
  exact .of_watched rfl

theorem finish_keeps (s : State) : Keeps s (finish s) := (clearDamage_keeps s).trans (arbitrate_keeps _)

theorem release_keeps (s : State) : Keeps s (release s) := by
  refine Keeps.trans ?_ ((finish_keeps (s.withGrant none)).trans (linkWake_keeps _))
  exact .of_watched rfl

theorem settleCount_keeps (s : State) : Keeps s (settleCount s) :=
  .ite (fun _ => (completeCount_keeps s).trans (finish_keeps _)) fun _ => .refl s

/-- The report queue at ARM NEW is no longer (R156). -/
theorem reportsArmNew_length_le (s : State) : (reportsArmNew s).records.length ≤ s.rep.records.length := by
  unfold reportsArmNew
  split
  · dsimp only
    split
    · exact List.length_take_le' _ _
    · exact Nat.zero_le _
  · exact le_rfl

/-- The blocks at an ARM NEW, one after the other (R16 to R184). -/
theorem armNewBody_keeps (start : Int) (s0 : State) : Keeps s0 (armNewBody start s0) := by
  unfold armNewBody
  extract_lets s odo
  refine Keeps.trans ?_ (armTimer_keeps _)
  generalize allSlots = slots
  refine Keeps.trans ?_ (.foldl loadWedge_keeps slots _)
  refine Keeps.trans ?_ (setRun_keeps _ _)
  have hodo := (fifoClear_keeps s0).trans (.odo (o := odo) fun _ =>
    ⟨(clampPos_range start).1, (clampPos_range start).2, Nat.zero_le _⟩)
  have hrail := hodo.trans (.rail (u := noDeferral s.rail) fun _ => Nat.zero_le 15)
  have hcoup := hrail.trans (.coup (c := coupClear s.coup) fun _ => coupClear_noTransmit_le s.coup)
  have htrk := (hcoup.trans (emptyTracker_keeps _)).trans (emptyConf_keeps _)
  have hrep := htrk.trans (.setReports (r := reportsArmNew s) (reportsArmNew_length_le s))
  have hmark := hrep.trans (.setMark (f := fun _ => markArmNew (odo.pc + s.mark.gunOffset) s.mark) (Nat.zero_le _))
  have hlink := hmark.trans (.setLink
    (f := fun l => { l with counts := Counts.zero, clash := false, gapList := [], untold := noUntold })
    le_rfl (Nat.zero_le _) (.inr rfl) le_rfl)
  exact hlink.trans (.of_watched rfl)

theorem armResumeBody_keeps (s : State) : Keeps s (armResumeBody s) := by
  unfold armResumeBody
  refine Keeps.trans ?_ (armTimer_keeps _)
  refine Keeps.trans ?_ (setRun_keeps _ _)
  have hrail := (setSched_keeps unsettle s).trans (.rail (u := noDeferral s.rail) fun _ => Nat.zero_le 15)
  exact hrail.trans (.coup (c := coupResume s.coup) fun _ => coupClear_noTransmit_le s.coup)

theorem haltBody_keeps (s : State) : Keeps s (haltBody s) :=
  ((leaveRun_keeps true s).trans (raise_keeps _ _)).trans (setRun_keeps _ _)

theorem endBody_keeps (s : State) : Keeps s (endBody s) := by
  unfold endBody
  extract_lets s1
  have hleave : Keeps s s1 :=
    Keeps.trans (.ite (fun _ => leaveRun_keeps true s) fun _ => .refl s) (fifoClear_keeps _)
  refine Keeps.trans ?_ (setRun_keeps _ _)
  refine Keeps.trans ?_ (raise_keeps _ _)
  have hconf := (hleave.trans (emptyConf_keeps _)).trans (.setMark (f := markClear) (Nat.zero_le _))
  exact hconf.trans (.of_watched rfl)

end Sys2Proof.Machine
end

section
/-! PROOFS. The invariants (O57 to O60): what the tracker, the queues and every command keep, so that a step keeps each of them. -/

namespace Sys2Proof.Machine

/-! Reads outside the indication table leave the tracker. -/

/-- A write of a word leaves the tracker. -/
@[simp] theorem State.setWord_trk (s : State) (a : Nat) (w : StoreWord) : (s.setWord a w).trk = s.trk := by
  unfold State.setWord
  split <;> rfl

/-- The read of a slot's area word leaves the tracker. -/
theorem readArea_trk (n : Slot) (s : State) : (readArea n s).1.trk = s.trk := by
  unfold readArea readWith
  dsimp only
  split
  · rfl
  · simp
  · simp
  · rfl

/-- Damage in a curve area leaves the tracker. -/
theorem damageCurve_trk (a : Area) (p : Piece) (s : State) : (damageCurve a p s).trk = s.trk := by
  unfold damageCurve
  generalize allSlots = l
  refine foldl_keeps (P := fun t : State => t.trk = s.trk) (fun t n ht => ?_) l _ rfl
  have hread := readArea_trk n t
  unfold damageNaming
  split <;> rename_i heq <;> rw [heq] at hread
  · exact hread.trans ht
  · split <;> exact hread.trans ht

/-- Damage in the FIFO leaves the tracker. -/
theorem damageFifo_trk (p : Nat) (s : State) : (damageFifo p s).trk = s.trk := by
  simp only [damageFifo]
  repeat' split
  all_goals rfl

/-- The tracker owns the words of the indication table alone (R165, R167). -/
theorem ownerAction_trk {r : Region} (hr : ∀ i, r ≠ .entry i) (s : State) : (ownerAction r s).trk = s.trk := by
  cases r with
  | entry i => exact absurd rfl (hr i)
  | curve a p => exact damageCurve_trk a p s
  | fifo p => exact damageFifo_trk p s
  | report p =>
    simp only [ownerAction, damageRecord]
    split
    · rfl
    · rfl
  | _ => rfl

/-- A read of a word outside the indication table leaves the tracker. -/
theorem readWord_trk {a : Nat} (ha : ∀ i, (regionOf a).1 ≠ .entry i) (s : State) : (readWord a s).1.trk = s.trk := by
  have hgarble (k : Nat) (m : BitVec 39) (t : State) : (garbleItem (regionOf a).1 k m t).trk = t.trk := by
    cases hr : (regionOf a).1 with
    | entry i => exact absurd hr (ha i)
    | _ => rfl
  unfold readWord readWith
  dsimp only
  split
  · rfl
  · dsimp only
    split
    · rw [hgarble, State.count_trk, State.setWord_trk]
    · rw [State.count_trk, State.setWord_trk]
  · rw [hgarble, State.setWord_trk]
  · unfold readDouble
    dsimp only
    split
    · rw [ownerAction_trk ha, State.count_trk]
    · rw [State.setWord_trk, State.count_trk]

/-- The reads of words outside the indication table leave the tracker. -/
theorem readWords_trk {as : List Nat} (ha : ∀ a ∈ as, ∀ i, (regionOf a).1 ≠ .entry i) (s : State) :
    (readWords as s).1.trk = s.trk := by
  induction as generalizing s with
  | nil => rfl
  | cons a rest ih =>
    have hfirst := readWord_trk (ha a (by simp)) s
    have hrest (t : State) := ih (fun b hb => ha b (by simp [hb])) t
    unfold readWords
    split <;> rename_i heq <;> rw [heq] at hfirst
    · exact hfirst
    · rename_i t _
      have ht := hrest t
      split <;> rename_i heq' <;> rw [heq'] at ht <;> exact ht.trans hfirst

/-- From the words of the lists on, no word is of the indication table (R165). -/
theorem regionOf_ne_entry {a : Nat} (h : 688 ≤ a) (i : Fin 32) : (regionOf a).1 ≠ .entry i := by
  have hfour : ¬(a < 16 ∨ a < 304 ∨ a < 432 ∨ a < 688) := by omega
  simp only [not_or] at hfour
  unfold regionOf
  rw [if_neg hfour.1, if_neg hfour.2.1, if_neg hfour.2.2.1, if_neg hfour.2.2.2]
  repeat' split
  all_goals simp

/-- The reads of the waiting records leave the tracker. -/
theorem readWaiting_trk (s : State) : (readWaiting s).trk = s.trk := by
  refine foldl_keeps (P := fun t : State => t.trk = s.trk) (fun t p ht => (readWords_trk ?_ t).trans ht) _ s rfl
  intro a ha
  simp only [wordsFrom, List.mem_map, List.mem_range, reportBase] at ha
  obtain ⟨k, -, rfl⟩ := ha
  exact regionOf_ne_entry (by omega)

/-! The Report Queue (09). -/

theorem readWaiting_keeps (s : State) : Keeps s (readWaiting s) := .foldl (fun s _ => readItem_keeps _ 11 s) _ s

/-- A record appended to a queue that has room for it. -/
theorem appendRecord_keeps {s : State} (r : IndicationRecord) {l : List (Placed IndicationRecord)}
    (h : Capacities s → l.length < 16) : Keeps s (appendRecord r (setRecords l s)) := by
  refine Keeps.trans ?_ (writeItem_keeps _ 11 _)
  exact { Keeps.refl s with capacities := fun hc => ⟨hc.1, hc.2.1, by simpa using h hc, hc.2.2.2⟩ }

/-- The lowest-ranked record is one of the list (R152). -/
theorem lowestRanked_mem {l : List (Placed IndicationRecord)} {x : Placed IndicationRecord}
    (h : lowestRanked l = some x) : x ∈ l := by
  induction l generalizing x with
  | nil => cases h
  | cons y rest ih =>
    simp only [lowestRanked] at h
    split at h
    · simp_all
    · rename_i z hz
      split at h
      · simp_all
      · exact List.mem_cons_of_mem y (ih (hz.trans h))

/-- A waiting record is one of the queue (R152). -/
theorem mem_of_mem_waitingRecords {s : State} {x : Placed IndicationRecord} (h : x ∈ waitingRecords s) :
    x ∈ s.rep.records := by
  unfold waitingRecords at h
  split at h
  · exact List.mem_of_mem_tail h
  · exact h

theorem displaceFor_keeps (r : IndicationRecord) (s : State) : Keeps s (displaceFor r s) := by
  have hread := readWaiting_keeps s
  have hcount := hread.trans (.count addReportsLost_stops _)
  unfold displaceFor
  extract_lets s1 s2
  refine .ite (fun hroom => hread.trans (appendRecord_keeps r (l := s1.rep.records) fun _ => hroom)) fun _ => ?_
  split
  · exact hcount
  · rename_i y hlow
    have hy := mem_of_mem_waitingRecords (lowestRanked_mem hlow)
    exact .ite
      (fun _ => hcount.trans (appendRecord_keeps r fun hc => (length_without_lt hy).trans_le hc.2.2.1))
      fun _ => hcount

theorem reportJoin_keeps (r : IndicationRecord) (s : State) : Keeps s (reportJoin r s) :=
  .ite (fun hroom => appendRecord_keeps r (l := s.rep.records) fun _ => hroom) fun _ => displaceFor_keeps r s

/-! The Indication Tracker (07). -/

/-- An OPEN index given other fields. -/
theorem writeEntry_keeps {i : Fin 32} (e : Entry) {s : State} (h : s.trk.entries[i].isSome = true) :
    Keeps s (writeEntry i e s) := by
  refine Keeps.trans (.entries fun j => ?_) (writeItem_keeps _ 8 _)
  rw [put_get]
  split
  · rename_i hji; rw [hji, h]; rfl
  · rfl

theorem readEntries_keeps (is : List (Fin 32)) (s : State) : Keeps s (readEntries is s) :=
  .foldl (fun s _ => .ite (fun _ => readItem_keeps _ 8 s) fun _ => .refl s) is s

theorem fifoJoin_keeps (w : WatchOut) (s : State) : Keeps s (fifoJoin w s) := by
  refine .ite (fun hroom => Keeps.trans ?_ (writeItem_keeps _ 4 _)) fun _ => .count addWatchesDropped_stops s
  exact { Keeps.refl s with capacities := fun hc =>
    ⟨hc.1, hc.2.1, hc.2.2.1, hc.2.2.2.1, by simpa using hroom, hc.2.2.2.2.2⟩ }

theorem reportOutputs_keeps (e : Entry) (asev : Nat) (cause : ClosureCause) (source : Option (Nat × Nat)) (s : State) :
    Keeps s (reportOutputs e asev cause source s) := by
  have hread := readStationFor_keeps cause.isSweep [0] s
  unfold reportOutputs
  split <;> rename_i heq <;> rw [heq] at hread
  · exact hread
  · have hjoin (r : IndicationRecord) := hread.trans (reportJoin_keeps r _)
    exact .ite (fun _ => (hjoin _).trans (markOffer_keeps _ _)) fun _ => hjoin _

theorem watchOutput_keeps (on : Bool) (e : Entry) (s : State) : Keeps s (watchOutput on e s) := by
  have hread := readStationFor_keeps on [0, 4, 5] s
  unfold watchOutput
  split <;> rename_i heq <;> rw [heq] at hread
  · exact hread
  · exact hread.trans (fifoJoin_keeps _ _)

theorem closureOutputs_keeps (i : Fin 32) (e : Entry) (r : SlotRecord) (cause : ClosureCause)
    (source : Option (Nat × Nat)) (s : State) : Keeps s (closureOutputs i e r cause source s) := by
  unfold closureOutputs
  extract_lets o s1 s2 s3
  have hreport : Keeps s s1 := .ite (fun _ => reportOutputs_keeps e r.asev cause source s) fun _ => .refl s
  have hwatch : Keeps s s2 := hreport.trans (.ite (fun _ => watchOutput_keeps _ e s1) fun _ => .refl s1)
  have hjoin : Keeps s s3 := hwatch.trans (.ite (fun _ => confJoin_keeps _ _ s2) fun _ => .refl s2)
  exact .ite (fun _ => hjoin) fun _ => hjoin.trans (freeEntry_keeps i s3)

theorem closeEntry_keeps (cause : ClosureCause) (i : Fin 32) (s : State) : Keeps s (closeEntry cause i s) := by
  have hread := readStationFor_keeps cause.isSweep [4] s
  unfold closeEntry
  split
  · exact .refl s
  · rename_i e he
    split <;> rename_i heq <;> rw [heq] at hread
    · exact hread
    · rename_i s1 st
      have hslot := (hread.trans (readConf_keeps s1)).trans (readSlot_keeps e.slot [10, 11] (readConf s1))
      dsimp only
      split <;> rename_i heq' <;> rw [heq'] at hslot
      · exact hslot.trans (freeEntry_keeps i _)
      · exact hslot.trans (closureOutputs_keeps i e _ cause _ _)

theorem closeRead_keeps (cause : ClosureCause) (is : List (Fin 32)) (s : State) : Keeps s (closeRead cause is s) :=
  .foldl (fun s i => .ite (fun _ => .refl s) fun _ => (readEntries_keeps [i] s).trans (closeEntry_keeps cause i _)) is s

theorem sweep_keeps (cause : ClosureCause) (s : State) : Keeps s (sweep cause s) := closeRead_keeps cause allIndices s

theorem couplingClosures_keeps (n : Slot) (s : State) : Keeps s (couplingClosures n s) := closeRead_keeps _ _ s

/-- Numbers run from 1 to 65535 (R115). -/
theorem nextNumber_range (n : Nat) : 1 ≤ nextNumber n ∧ nextNumber n ≤ 65535 := by
  unfold nextNumber
  split <;> omega

/-- An index that the table leaves FREE is opened: it joins the opening order as it joins the table (R114). -/
theorem openEntry_keeps {i : Fin 32} (e : Entry) (number : Nat) {s : State} (hfree : s.trk.entries[i] = none) :
    Keeps s { s with trk := { s.trk with
      entries := put s.trk.entries i (some e), order := s.trk.order ++ [i], next := nextNumber number } } := by
  obtain ⟨hlow, hhigh⟩ := nextNumber_range number
  refine { Keeps.refl s with counters := fun hc => ⟨hc.1, hc.2.1, hlow, hhigh, hc.2.2.2.2⟩, order := fun ho => ?_ }
  have hnew : i ∉ s.trk.order := by simp [ho.2 i, hfree]
  refine ⟨List.nodup_append.mpr ⟨ho.1, List.nodup_singleton i, ?_⟩, fun j => ?_⟩
  · intro a ha b hb hab
    rw [List.mem_singleton] at hb
    exact hnew (hb ▸ hab ▸ ha)
  · dsimp only
    rw [put_get]
    by_cases hji : j = i <;> simp [hji, ho.2 j]

theorem openAt_keeps {i : Fin 32} (h : Hit) {s : State} (hfree : s.trk.entries[i] = none) : Keeps s (openAt i h s) := by
  refine (readWaiting_keeps s).trans (Keeps.trans (openEntry_keeps _ _ ?_) (writeItem_keeps _ 8 _))
  rw [readWaiting_trk, hfree]

theorem evictFor_keeps (h : Hit) (s : State) : Keeps s (evictFor h s).1 := by
  unfold evictFor
  split
  · exact .refl s
  · rename_i c hc
    split
    · have hclose := closeEntry_keeps .evicted c.1 s
      dsimp only
      split
      · exact hclose
      · rename_i hfree
        exact hclose.trans (openAt_keeps h (Option.not_isSome_iff_eq_none.mp hfree))
    · exact .count addTrackerSaturation_stops s

/-- The lowest FREE index is FREE. -/
theorem lowestFree_free {s : State} {i : Fin 32} (h : lowestFree s = some i) : s.trk.entries[i] = none := by
  simpa using List.find?_some h

theorem openHit_keeps (h : Hit) (s : State) : Keeps s (openHit h s).1 := by
  unfold openHit
  split
  · exact openAt_keeps h (lowestFree_free ‹_›)
  · have hread := readEntries_keeps allIndices s
    dsimp only
    split
    · exact hread.trans (openAt_keeps h (lowestFree_free ‹_›))
    · exact hread.trans (evictFor_keeps h _)

/-- The nearest matching entry stands in the table at its index (R111). -/
theorem nearestEntry_get {window tol : Nat} {h : Hit} {s : State} {is : List (Fin 32)} {i : Fin 32} {e : Entry}
    (hn : nearestEntry window tol h s is = some (i, e)) : s.trk.entries[i] = some e := by
  induction is generalizing i e with
  | nil => cases hn
  | cons j rest ih =>
    simp only [nearestEntry] at hn
    split at hn
    · exact ih hn
    · rename_i e' he'
      split at hn
      · split at hn
        · simp_all
        · rename_i y hy
          split at hn
          · exact ih (hy.trans hn)
          · simp_all
      · exact ih hn

theorem offerHit_keeps (st : StationRecord) (h : Hit) (s : State) : Keeps s (offerHit st h s).1 := by
  unfold offerHit
  extract_lets s1
  have hread : Keeps s s1 := readEntries_keeps _ s
  split
  · exact hread.trans (openHit_keeps h s1)
  · rename_i i e hn
    split
    · have hclose := hread.trans (closeEntry_keeps .span i s1)
      dsimp only
      split
      · exact hclose
      · exact hclose.trans (openHit_keeps h _)
    · exact hread.trans (writeEntry_keeps _ (by rw [nearestEntry_get hn]; rfl))

theorem offerHits_keeps (st : StationRecord) (hs : List Hit) (fed : List (Fin 32)) (s : State) :
    Keeps s (offerHits st hs fed s).1 := by
  induction hs generalizing fed s with
  | nil => exact .refl s
  | cons h rest ih =>
    unfold offerHits
    split
    · exact .refl s
    · exact (offerHit_keeps st h s).trans (ih _ _)

theorem missAt_keeps (i : Fin 32) (s : State) : Keeps s (missAt i s) := by
  have hread := readEntries_keeps [i] s
  unfold missAt
  dsimp only
  split
  · exact hread
  · rename_i e he
    exact hread.trans (writeEntry_keeps _ (by rw [he]; rfl))

theorem misses_keeps (n : Slot) (gap : Nat) (fed : List (Fin 32)) (s : State) : Keeps s (misses n gap fed s) := by
  refine Keeps.trans (.foldl (fun s i => missAt_keeps i s) _ s) (.foldl (fun s i => ?_) _ _)
  split
  · exact .ite (fun _ => closeEntry_keeps .misses i s) fun _ => .refl s
  · exact .refl s

theorem track_keeps (n : Slot) (gap : Nat) (hits : List Hit) (s : State) : Keeps s (track n gap hits s) := by
  have hread := readStation_keeps [3, 4] s
  unfold track
  split <;> rename_i heq <;> rw [heq] at hread
  · exact hread
  · have hoffer (st : StationRecord) := hread.trans (offerHits_keeps st hits [] _)
    exact .ite (fun _ => hoffer _) fun _ => (hoffer _).trans (misses_keeps _ _ _ _)

/-! The processing of a shot, sweeps and the expiry test. -/

theorem feed_keeps (h : HandOver) (s : State) : Keeps s (feed h s) := by
  refine .ite (fun _ => ?_) fun _ => .refl s
  have hread := readStation_keeps [0] s
  split <;> rename_i heq <;> rw [heq] at hread
  · exact hread
  · rename_i s1 st
    have hslot := hread.trans (readSlot_keeps h.record.slot [0, 9] s1)
    split <;> rename_i heq' <;> rw [heq'] at hslot
    · exact hslot
    · exact .ite (fun _ => hslot.trans (track_keeps _ _ _ _)) fun _ => hslot

theorem autoZero_keeps (h : HandOver) (s : State) : Keeps s (autoZero h s) :=
  .ite (fun _ => setSched_keeps _ s) fun _ => .refl s

theorem answerRequest_keeps (h : HandOver) (s : State) : Keeps s (answerRequest h s) :=
  .ite (fun _ => .of_watched rfl) fun _ => .refl s

theorem handShot_keeps (h : HandOver) (s : State) : Keeps s (handShot h s) :=
  ((autoZero_keeps h s).trans (answerRequest_keeps h _)).trans (feed_keeps h _)

theorem couplingAct_keeps (act : CouplingAct) (n : Slot) (firePos : Int) (s : State) :
    Keeps s (couplingAct act n firePos s) := by
  cases act with
  | nothing => exact .refl s
  | extend => exact touchGap_keeps n .coupling firePos firePos s
  | enterLost =>
    have hclose := couplingClosures_keeps n s
    exact .ite (fun _ => hclose) fun _ => hclose.trans (openCouplingGap_keeps n firePos _)

theorem coupleShot_keeps (rec : ShotRecord) (r : SlotRecord) (g : GateResults) (s : State) :
    Keeps s (coupleShot rec r g s).1 := by
  unfold coupleShot
  dsimp only
  split
  · exact .refl s
  · have hact (c : SlotCoupling) (act : CouplingAct) :
        Keeps s (couplingAct act rec.slot rec.firePos (setCoupling rec.slot c s)) :=
      (setCoupling_keeps _ c s).trans (couplingAct_keeps act _ _ _)
    exact .ite (fun _ => (hact _ _).trans (closeGaps_keeps _ _)) fun _ => hact _ _

theorem testShot_keeps (rec : ShotRecord) (g : GateResults) (hits : List Hit) (s : State) :
    Keeps s (testShot rec g hits s) := by
  have hread := readSlot_keeps rec.slot [9] s
  unfold testShot
  split <;> rename_i heq <;> rw [heq] at hread
  · exact hread
  · rename_i s1 r
    have htest := hread.trans (coupleShot_keeps rec r g s1)
    exact .ite (fun _ => hread) fun _ => .ite (fun _ => htest) fun _ => htest.trans (handShot_keeps _ _)

theorem gateShot_keeps (rec : ShotRecord) (peaks : List GainedPeak) (flatGain : Bool) (s : State) :
    Keeps s (gateShot rec peaks flatGain s) := by
  have hread := readSlot_keeps rec.slot (List.range 10) s
  unfold gateShot
  split <;> rename_i heq <;> rw [heq] at hread
  · exact hread
  · exact hread.trans (testShot_keeps _ _ _ _)

theorem readCurve_keeps (a : Area) (s : State) : Keeps s (readCurve a s).1 := by
  have hread := readWords_keeps ((List.range 16).map (pointAddr a)) s
  unfold readCurve
  split <;> rename_i heq <;> rw [heq] at hread <;> exact hread

theorem shotCurve_keeps (marked : Bool) (area : Option Area) (s : State) : Keeps s (shotCurve marked area s).1 := by
  unfold shotCurve
  split
  · exact .refl s
  · split
    · exact .refl s
    · rename_i a
      have hread := readCurve_keeps a s
      split
      · split <;> rename_i heq <;> rw [heq] at hread <;> exact hread
      · exact .refl s

theorem gainShot_keeps (rec : ShotRecord) (s : State) : Keeps s (gainShot rec s) := by
  have hread := readSlot_keeps rec.slot [0, 1] s
  unfold gainShot
  split <;> rename_i heq <;> rw [heq] at hread
  · exact hread
  · rename_i s1 r
    have hcurve := hread.trans (shotCurve_keeps s1.gain.takenFlat r.area s1)
    dsimp only
    exact hcurve.trans (gateShot_keeps _ _ _ _)

theorem takeNext_keeps (s : State) : Keeps s (takeNext s) := by
  unfold takeNext
  split
  · exact .of_watched rfl
  · rename_i r rest hq
    exact { Keeps.refl s with capacities := fun hc =>
      ⟨hc.1, hc.2.1, hc.2.2.1, hc.2.2.2.1, hc.2.2.2.2.1, hc.2.2.2.2.2.1,
        (Nat.le_succ rest.length).trans (by simpa [hq] using hc.2.2.2.2.2.2)⟩ }

theorem runSweep_keeps (cause : ClosureCause) (s : State) : Keeps s (runSweep cause s) := by
  unfold runSweep
  split
  · exact .refl s
  · rename_i htake
    exact ((takeShot_keeps htake).trans (sweep_keeps cause _)).trans (release_keeps _)

/-! Rounds, turns and the boost decision. -/

theorem formDue_keeps (o : Origin) (index : Option Nat) (ns : List Slot) (s : State) :
    Keeps s (formDue o index ns s).1 := by
  induction ns generalizing s with
  | nil => exact .refl s
  | cons n rest ih =>
    unfold formDue
    exact (readSlot_keeps n [0] s).trans (ih _)

theorem formRound_keeps (o : Origin) (index : Option Nat) (pos : Int) (s : State) : Keeps s (formRound o index pos s) := by
  unfold formRound
  exact (formDue_keeps o index allSlots s).trans (newRound_keeps _ _)

theorem takeTurn_keeps (n : Slot) (r : Option SlotRecord) (s : State) : Keeps s (takeTurn n r s) := by
  cases r with
  | none => exact skipTurn_keeps .store s
  | some r =>
    have hturn := setSched_keeps (fun u => { u with turn := some (turnOf r) }) s
    exact .ite (fun _ => skipTurn_keeps .store s) fun _ => .ite (fun _ => skipTurn_keeps .port s) fun _ =>
      .ite (fun _ => hturn.trans (claimTurn_keeps n _)) fun _ => hturn.trans (fire_keeps false _)

theorem decide65_keeps (n : Slot) (firePos : Int) (s : State) : Keeps s (decide65 n firePos s).1 := by
  have hread := readSlot_keeps n [0] s
  unfold decide65
  split <;> rename_i heq <;> rw [heq] at hread
  · exact hread
  · rename_i s1 r0
    split
    · exact hread
    · have haim := hread.trans (readSlot_keeps n [4] s1)
      split <;> rename_i heq' <;> rw [heq'] at haim
      · exact haim
      · have hzones := haim.trans (readZones_keeps _)
        dsimp only
        split
        · exact hzones.trans (readStationOn_keeps [5] _)
        · exact hzones

/-- A decision set in the record queue leaves its length. -/
theorem decideFirst_length (n : Slot) (p : Int) (b : Boost) (l : List ShotRecord) :
    (decideFirst n p b l).length = l.length := by
  induction l with
  | nil => rfl
  | cons r rest ih =>
    unfold decideFirst
    split
    · rfl
    · simp [ih]

theorem setDecision_keeps (n : Slot) (p : Int) (b : Boost) (s : State) : Keeps s (setDecision n p b s) := by
  refine .ite (fun _ => .of_watched rfl) fun _ => .ite (fun _ => .of_watched ?_) fun _ => setSched_keeps _ s
  simp [State.watched, decideFirst_length]

/-! Setup. -/

theorem afterStore_keeps (s : State) : Keeps s (afterStore s) := .ite (fun _ => setRun_keeps _ s) fun _ => .refl s

theorem storeStation_keeps (p : List Byte) (s : State) : Keeps s (storeStation p s) := by
  unfold storeStation
  extract_lets r s1
  have hwrite : Keeps s s1 := writeWords_keeps _ _ s
  clear_value s1
  exact hwrite.trans ((afterStore_keeps _).watched_trans rfl)

theorem storeSlot_keeps (p : List Byte) (s : State) : Keeps s (storeSlot p s) := by
  unfold storeSlot
  extract_lets r n s1
  have hwrite : Keeps s s1 := writeWords_keeps _ _ s
  clear_value s1
  exact hwrite.trans ((afterStore_keeps _).watched_trans rfl)

theorem storeCurve_keeps (p : List Byte) (s : State) : Keeps s (storeCurve p s) := by
  unfold storeCurve
  extract_lets a b s1
  have hwrite : Keeps s s1 := writeWords_keeps _ _ s
  clear_value s1
  exact hwrite.trans ((afterStore_keeps _).watched_trans rfl)

theorem storeFrame_keeps (r : RxReq) (s : State) : Keeps s (storeFrame r s) := by
  refine .ite (fun _ => .count addSetupRefused_stops s) fun _ => ?_
  split
  · exact storeStation_keeps _ s
  · exact storeSlot_keeps _ s
  · exact storeCurve_keeps _ s
  · exact .refl s

theorem runSetupStore_keeps (s : State) : Keeps s (runSetupStore s) := by
  unfold runSetupStore
  split
  · exact .refl s
  · exact ((takeRx_keeps ‹_›).trans (storeFrame_keeps _ _)).trans (release_keeps _)

theorem clampWatch_keeps (s : State) (n : Slot) : Keeps s (clampWatch s n) := by
  have hread := readSlot_keeps n [10, 11] s
  unfold clampWatch
  split <;> rename_i heq <;> rw [heq] at hread
  · exact hread
  · exact hread.trans (writeWords_keeps _ _ _)

theorem flatByArea_keeps (n : Slot) (area : Option Area) (s : State) : Keeps s (flatByArea n area s) := by
  unfold flatByArea
  split
  · exact setFlat_keeps n _ s
  · rename_i a
    have hread := readCurve_keeps a s
    split
    · split <;> rename_i heq <;> rw [heq] at hread <;> exact hread.trans (setFlat_keeps n _ _)
    · exact setFlat_keeps n _ s

theorem flatCheck_keeps (s : State) (n : Slot) : Keeps s (flatCheck s n) := by
  have hread := readSlot_keeps n [1] s
  unfold flatCheck
  split <;> rename_i heq <;> rw [heq] at hread
  · exact hread.trans (setFlat_keeps n _ _)
  · exact .ite (fun _ => hread.trans (setFlat_keeps n _ _)) fun _ => hread.trans (flatByArea_keeps n _ _)

theorem setGateMarks_keeps (n : Slot) (i a b sync : Bool) (s : State) : Keeps s (setGateMarks n i a b sync s) :=
  .of_watched rfl

theorem gateCheck_keeps (s : State) (n : Slot) : Keeps s (gateCheck s n) := by
  have hread := readSlot_keeps n [0, 4, 5, 6, 7, 8] s
  unfold gateCheck
  split <;> rename_i heq <;> rw [heq] at hread
  · exact hread.trans (setGateMarks_keeps n _ _ _ _ _)
  · exact .ite (fun _ => hread.trans (setGateMarks_keeps n _ _ _ _ _)) fun _ =>
      hread.trans (setGateMarks_keeps n _ _ _ _ _)

theorem setSource_keeps (n : Slot) (c : CouplingSource) (s : State) : Keeps s (setSource n c s) := .of_watched rfl

theorem sourceCheck_keeps (s : State) (n : Slot) : Keeps s (sourceCheck s n) := by
  have hread := readSlot_keeps n [0, 4] s
  unfold sourceCheck
  split <;> rename_i heq <;> rw [heq] at hread <;> exact hread.trans (setSource_keeps n _ _)

theorem setDamaged_keeps (v : Vector Bool 12) (s : State) : Keeps s (setDamaged v s) := .of_watched rfl

theorem checkSlots_keeps (s : State) : Keeps s (checkSlots s) := by
  unfold checkSlots
  generalize allSlots = l
  exact (((Keeps.foldl clampWatch_keeps l s).trans (.foldl flatCheck_keeps l _)).trans (.foldl gateCheck_keeps l _)).trans
    (.foldl sourceCheck_keeps l _)

theorem findAndCheck_keeps (s : State) : Keeps s (findAndCheck s) :=
  ((setDamaged_keeps _ s).trans (checkSlots_keeps _)).trans (setDamaged_keeps _ _)

theorem runChecks_keeps (s : State) : Keeps s (runChecks s) := by
  have hchecks := findAndCheck_keeps s
  unfold runChecks
  generalize findAndCheck s = s1 at hchecks
  exact .ite (fun _ => hchecks.trans (setRun_keeps _ _)) fun _ => hchecks

/-! The link. -/

theorem joinPeer_keeps (j : PeerJoin) (s : State) : Keeps s (joinPeer j s) := by
  have hread := readStationOn_keeps [0] s
  refine .ite (fun _ => .ite (fun _ => ?_) fun _ => hread) fun _ => .refl s
  have hjoin := hread.trans (confJoin_keeps true j.entry _)
  split
  · exact hjoin.trans (zoneOffer_keeps _ _)
  · exact hjoin

theorem readLocked_keeps (s : State) : Keeps s (readLocked s) := by
  unfold readLocked
  split
  · rename_i r rest _ _
    have hread := readItem_keeps (reportBase r.place) 11 s
    dsimp only
    split
    · exact hread.trans (startFrame_keeps _ _ _)
    · exact hread.trans (chooseStatus_keeps _)
  · exact (Keeps.setReports (r := { s.rep with locked := none }) le_rfl).trans (chooseStatus_keeps _)

theorem readHead_keeps (gone : Bool) (s : State) : Keeps s (readHead gone s) := by
  unfold readHead
  split
  · rename_i w rest _
    have hread := readItem_keeps (fifoBase w.place) 4 s
    dsimp only
    split
    · exact hread.trans (startFrame_keeps _ _ _)
    · exact hread.trans (chooseReport_keeps _)
  · exact chooseReport_keeps s

theorem endReport_keeps (s : State) : Keeps s (endReport s) := by
  unfold endReport
  split
  · exact .setReports (by simp)
  · exact .refl s

theorem endOf_keeps (k : TxKind) (s : State) : Keeps s (endOf k s) := by
  cases k with
  | indication => exact endReport_keeps s
  | watch => exact .ite (fun _ => .refl s) fun _ => raiseTx_keeps _ s
  | status => exact .refl s
  | shot => exact .refl s

theorem removeSent_keeps (s : State) : Keeps s (removeSent s) := by
  unfold removeSent
  split
  · exact .refl s
  · rename_i w rest _
    have hread := (readItem_keeps (fifoBase w.place) 4
      { s with store := { s.store with txReqs := .removeHead false :: s.store.txReqs } }).watched_trans (s := s) rfl
    generalize readItem (fifoBase w.place) 4 _ = s1 at hread
    have hhead := hread.trans
      (Keeps.setLink (f := fun l => { l with fifo := l.fifo.tail }) (by simp) le_rfl (.inl rfl) le_rfl)
    exact hhead.trans_watched rfl

/-! The commands. -/

/-- The state after power-on meets every invariant (R175). -/
theorem powerOn_keeps (encoder : BitVec 2) (pulled : Bool) (straps : Fin 8) (s : State) :
    Keeps s ((State.powerOn encoder pulled straps).withPending s.pending) where
  memory _ := rfl
  odometry _ := ⟨(by decide : -posMax ≤ 0), (by decide : 0 ≤ posMax), Nat.zero_le 839⟩
  counts _ := by simp [CountsBounded, State.powerOn, LinkUnit.powerOn, Counts.all, Counts.zero]
  capacities _ := by
    simp [Capacities, State.powerOn, ConfUnit.powerOn, ReportUnit.powerOn, MarkerUnit.powerOn, LinkUnit.powerOn,
      GainUnit.powerOn]
  counters _ := by
    simp [CountersInRange, State.powerOn, RailUnit.powerOn, CouplingUnit.powerOn, TrackerUnit.powerOn, StoreUnit.powerOn,
      LinkUnit.powerOn]
  order _ := ⟨List.nodup_nil, fun i => by simp [State.powerOn, TrackerUnit.powerOn]⟩

/-- The scrub address and the wait count stay in their ranges (R173). -/
theorem Keeps.scrub {s : State} {f : StoreUnit → StoreUnit} (hcells : (f s.store).cells = s.store.cells)
    (haddr : s.store.scrubAddr ≤ 1023 → (f s.store).scrubAddr ≤ 1023)
    (hwait : s.store.scrubWait ≤ 4 → (f s.store).scrubWait ≤ 4) : Keeps s (s.setStore f) :=
  { Keeps.refl s with
    memory := fun h => by simpa [MemoryForm, State.setStore, hcells] using h
    counters := fun hc =>
      ⟨hc.1, hc.2.1, hc.2.2.1, hc.2.2.2.1, haddr hc.2.2.2.2.1, hwait hc.2.2.2.2.2.1, hc.2.2.2.2.2.2⟩ }

/-- A run-control frame keeps what its body keeps. -/
theorem takeFrame_keeps (taken : State → Bool) {body : State → State} (hb : ∀ s, Keeps s (body s)) (s : State) :
    Keeps s (takeFrame taken body s) := by
  have hsettle := (runSetupStore_keeps s).trans (settleCount_keeps _)
  obtain ⟨-, h⟩ | ⟨-, -, h⟩ | ⟨-, -, h⟩ := takeFrame_cases taken body s <;> rw [h]
  · exact .refl s
  · exact hsettle
  · exact hsettle.trans (hb _)

/-- An outcome that goes on with a state which keeps all. -/
theorem keeps_of_next {s t u : State} (he : (Host.Outcome.next u : Out) = .next t) (h : Keeps s u) : Keeps s t := by
  cases he
  exact h

theorem execEncoderTransition_keeps {pair : BitVec 2} {s t : State} (he : execEncoderTransition pair s = .next t) :
    Keeps s t := by
  refine keeps_of_next he ?_
  have hsettle := settleCount_keeps s
  split
  · exact hsettle
  · exact hsettle.trans ((Keeps.count addEncoderErrors_stops _).watched_trans rfl)
  · rename_i c _
    have hcount := hsettle.trans ((takeCount_keeps c
      { settleCount s with odo := { (settleCount s).odo with ref := pair } }).watched_trans rfl)
    exact .ite (fun _ => hcount) fun _ => hcount.trans (arbitrate_keeps _)

theorem execStatusIntervalReached_keeps {s t : State} (he : execStatusIntervalReached s = .next t) : Keeps s t := by
  refine keeps_of_next he ?_
  refine .ite (fun _ => ?_) fun _ => .refl s
  have hread := readStation_keeps [7] s
  have hend (u : State) := (finish_keeps u).trans (linkWake_keeps _)
  split <;> rename_i heq <;> rw [heq] at hread
  · exact hread.trans (hend _)
  · exact .ite (fun _ => hread.trans ((hend _).watched_trans rfl)) fun _ => hread

theorem execTurnReads_keeps {s t : State} (he : execTurnReads s = .next t) : Keeps s t := by
  refine keeps_of_next he ?_
  split
  · exact .refl s
  · rename_i n isLive s1 htake
    have hread := (takeShot_keeps htake).trans (readSlot_keeps n [0, 1] s1)
    exact Keeps.trans (.ite (fun _ => hread.trans (takeTurn_keeps n _ _)) fun _ => hread) (release_keeps _)

theorem execLineActivity_keeps {other : Bool} {s t : State} (he : execLineActivity other s = .next t) : Keeps s t := by
  refine keeps_of_next he ?_
  refine ((linkWake_keeps s).trans
    (.setLink_frame (f := fun l => { l with holdOff := l.holdOff && !other }) rfl rfl rfl rfl)).trans ?_
  split
  · exact .of_watched rfl
  · exact .of_watched rfl
  · exact .refl _
  · exact .refl _

theorem execShotProcessing_keeps {s t : State} (he : execShotProcessing s = .next t) : Keeps s t := by
  refine keeps_of_next he ?_
  split
  · exact .refl s
  · rename_i s1 htake
    refine Keeps.trans ?_ ((takeNext_keeps _).trans (release_keeps _))
    split
    · exact (takeShot_keeps htake).trans (gainShot_keeps _ _)
    · exact takeShot_keeps htake

theorem execScrubRead_keeps {s t : State} (he : execScrubRead s = .next t) : Keeps s t := by
  have hread := readWord_keeps s.store.scrubAddr s
  unfold execScrubRead at he
  generalize (readWord s.store.scrubAddr s).1 = s1 at hread he
  refine keeps_of_next he ?_
  refine .ite (fun _ => hread.trans (Keeps.trans (.scrub rfl (fun _ => ?_) fun h => ?_) (release_keeps _))) fun _ => .refl s
  · dsimp only [nextScrub]
    split <;> omega
  · dsimp only
    split <;> omega

/-- Whatever a command does, it keeps every invariant. -/
theorem exec_keeps (c : Instr) {s t : State} (he : exec c s = .next t) : Keeps s t := by
  cases c with
  | powerOnReset e p n => exact keeps_of_next he (powerOn_keeps e p n s)
  | encoderTransition pair => exact execEncoderTransition_keeps he
  | step => exact keeps_of_next he (.ite (fun _ => (takeStep_keeps s).trans (finish_keeps _)) fun _ => .refl s)
  | reversal => exact keeps_of_next he (.ite (fun _ => (takeReversal_keeps s).trans (arbitrate_keeps _)) fun _ => .refl s)
  | statusIntervalReached => exact execStatusIntervalReached_keeps he
  | repetitionTimerExpiry =>
    exact keeps_of_next he (.ite (fun _ => (raise_keeps _ s).trans (arbitrate_keeps _)) fun _ => .refl s)
  | roundFormation =>
    refine keeps_of_next he ?_
    split
    · exact .refl s
    · rename_i htake
      refine Keeps.trans ?_ (release_keeps _)
      exact .ite (fun _ => (takeShot_keeps htake).trans (formRound_keeps _ _ _ _)) fun _ => takeShot_keeps htake
  | turnReads => exact execTurnReads_keeps he
  | inZoneQuestion =>
    refine keeps_of_next he ?_
    split
    · exact .refl s
    · rename_i htake
      exact ((((takeShot_keeps htake).trans (decide65_keeps _ _ _))).trans (setDecision_keeps _ _ _ _)).trans (release_keeps _)
  | railLineAssertion =>
    refine keeps_of_next he (.ite (fun _ => .refl s) fun _ => .rail fun h => ?_)
    dsimp only
    split
    · exact h
    · exact takeAssertion_deferral h
  | railLineRelease =>
    refine keeps_of_next he (.ite (fun _ => .rail fun h => ?_) fun _ => .refl s)
    dsimp only
    split
    · exact h
    · exact (takeRelease_deferral _ _).trans_le h
  | arbitrationDelayExpiry =>
    refine keeps_of_next he (.ite (fun _ => ?_) fun _ => .refl s)
    exact (Keeps.rail fun _ => Nat.zero_le 15).trans ((fire_keeps false _).trans (finish_keeps _))
  | stuckTimerExpiry =>
    refine keeps_of_next he (.ite (fun _ => .ite (fun _ => ?_) fun _ => .of_watched rfl) fun _ => .refl s)
    exact (Keeps.rail fun _ => Nat.zero_le 15).trans ((fire_keeps true _).trans (finish_keeps _))
  | shotCompletion ok samples =>
    refine keeps_of_next he ?_
    split
    · exact (completeShot_keeps _ ok samples s).trans (arbitrate_keeps _)
    · exact .refl s
  | shotProcessing => exact execShotProcessing_keeps he
  | expiryTest =>
    refine keeps_of_next he ?_
    split
    · exact .refl s
    · exact ((takeShot_keeps ‹_›).trans (testLists_keeps _ _ _)).trans (release_keeps _)
  | reversalSweep => exact keeps_of_next he (runSweep_keeps .reversal s)
  | haltSweep => exact keeps_of_next he (runSweep_keeps .halt s)
  | endSweep => exact keeps_of_next he (runSweep_keeps .runEnd s)
  | markerTest =>
    refine keeps_of_next he (.ite (fun _ => ?_) fun _ => .refl s)
    refine Keeps.trans (t := { s with store := { s.store with markerReq := false } }) (.of_watched rfl) ?_
    exact ((readMarks_keeps _).trans (.setMark (testMarks_length_le _))).trans (release_keeps _)
  | markerPulseExpiry => exact keeps_of_next he (.ite (fun _ => .of_watched rfl) fun _ => .refl s)
  | upset a m =>
    simp only [exec, execUpset] at he
    split at he
    · exact keeps_of_next he (.setWord s a _)
    · cases he
  | scrubTimerExpiry =>
    refine keeps_of_next he (.ite (fun _ => Keeps.trans (.scrub rfl id fun h => ?_) (arbitrate_keeps _)) fun _ => .refl s)
    dsimp only
    split <;> omega
  | scrubRequestUrgent => exact keeps_of_next he (.ite (fun _ => .of_watched rfl) fun _ => .refl s)
  | scrubRead => exact execScrubRead_keeps he
  | malformedFrame bytes =>
    simp only [exec, execMalformedFrame] at he
    refine keeps_of_next he ?_
    exact .ite (fun _ => .count addCrcErrors_stops s) fun _ => .refl s
  | lineActivity other => exact execLineActivity_keeps he
  | setupStation f =>
    exact keeps_of_next he (receive_keeps 1 f ((raiseRx_keeps _ s).trans (arbitrate_keeps _)))
  | setupSlot f =>
    exact keeps_of_next he (receive_keeps 2 f (.ite (fun _ => .count addSetupRefused_stops s) fun _ =>
      (raiseRx_keeps _ s).trans (arbitrate_keeps _)))
  | setupCurve f =>
    exact keeps_of_next he (receive_keeps 3 f (.ite (fun _ => .count addSetupRefused_stops s) fun _ =>
      (raiseRx_keeps _ s).trans (arbitrate_keeps _)))
  | setupFrameStore => exact keeps_of_next he (runSetupStore_keeps s)
  | closeSetup f =>
    exact keeps_of_next he (receive_keeps 4 f (.ite (fun _ => (raiseRx_keeps _ s).trans (arbitrate_keeps _)) fun _ => .refl s))
  | closeSetupChecks =>
    refine keeps_of_next he ?_
    split
    · exact .refl s
    · rename_i htake
      refine Keeps.trans ?_ (release_keeps _)
      exact .ite (fun _ => (takeRx_keeps htake).trans (runChecks_keeps _)) fun _ => takeRx_keeps htake
  | armNew f =>
    refine keeps_of_next he (receive_keeps 5 f (.ite (fun _ => takeFrame_keeps _ (fun s => ?_) s) fun _ => .refl s))
    exact (armNewBody_keeps _ s).trans ((finish_keeps _).trans (linkWake_keeps _))
  | armResume f =>
    refine keeps_of_next he (receive_keeps 5 f (.ite (fun _ => takeFrame_keeps _ (fun s => ?_) s) fun _ => .refl s))
    exact (armResumeBody_keeps s).trans ((finish_keeps _).trans (linkWake_keeps _))
  | halt f =>
    refine keeps_of_next he (receive_keeps 6 f (takeFrame_keeps _ (fun s => ?_) s))
    exact (haltBody_keeps s).trans ((arbitrate_keeps _).trans (linkWake_keeps _))
  | endRun f =>
    refine keeps_of_next he (receive_keeps 7 f (takeFrame_keeps _ (fun s => ?_) s))
    exact (endBody_keeps s).trans ((arbitrate_keeps _).trans (linkWake_keeps _))
  | stationReset f =>
    refine keeps_of_next he (receive_keeps 8 f (takeFrame_keeps _ (fun s => ?_) s))
    exact ((stationReset_keeps s).trans (raiseRx_keeps _ _)).trans ((arbitrate_keeps _).trans (linkWake_keeps _))
  | stationResetClearing =>
    refine keeps_of_next he ?_
    split
    · exact .refl s
    · exact ((takeRx_keeps ‹_›).trans (clearCollections_keeps _)).trans (release_keeps _)
  | shotRequest f => exact keeps_of_next he (receive_keeps 9 f (.ite (fun _ => .of_watched rfl) fun _ => .refl s))
  | indication f =>
    exact keeps_of_next he (receive_keeps 10 f
      (.ite (fun _ => (raiseRx_keeps _ s).trans (arbitrate_keeps _)) fun _ => .refl s))
  | watch f =>
    exact keeps_of_next he (receive_keeps 11 f
      (.ite (fun _ => (raiseRx_keeps _ s).trans (arbitrate_keeps _)) fun _ => .refl s))
  | peerStatusFrame f => exact keeps_of_next he (receive_keeps 12 f (.refl s))
  | peerShotFrame f => exact keeps_of_next he (receive_keeps 13 f (.refl s))
  | peerFrameJoin =>
    refine keeps_of_next he ?_
    split
    · exact .refl s
    · exact ((takeRx_keeps ‹_›).trans (joinPeer_keeps _ _)).trans (release_keeps _)
  | statusTimerExpiry =>
    exact keeps_of_next he (.ite (fun _ => (Keeps.setLink_frame rfl rfl rfl rfl).trans (linkWake_keeps _)) fun _ => .refl s)
  | idleWaitExpiry =>
    exact keeps_of_next he ((linkWake_keeps s).trans (.ite (fun _ => .of_watched rfl) fun _ => .refl _))
  | accessDelayExpiry =>
    exact keeps_of_next he (.ite (fun _ => (chooseFifo_keeps s).trans (arbitrate_keeps _)) fun _ => .refl s)
  | transmitterRead =>
    refine keeps_of_next he ?_
    split
    · exact .refl s
    · exact ((takeTx_keeps ‹_›).trans (readLocked_keeps _)).trans (release_keeps _)
    · exact ((takeTx_keeps ‹_›).trans (readHead_keeps _ _)).trans (release_keeps _)
  | transmissionEnd =>
    refine keeps_of_next he ?_
    split
    · exact (((endOf_keeps _ s).trans (.setLink_frame rfl rfl rfl rfl)).trans (toRest_keeps _)).trans (arbitrate_keeps _)
    · exact .refl s
    · exact .refl s
  | fifoRemoval =>
    refine keeps_of_next he ?_
    split
    · exact .refl s
    · rename_i htake
      refine Keeps.trans ?_ (release_keeps _)
      exact .ite (fun _ => takeTx_keeps htake) fun _ => (takeTx_keeps htake).trans (removeSent_keeps _)
  | resetPinAsserted =>
    refine keeps_of_next he (Keeps.trans (t := { s with rail := railPinReset s.rail }) (.of_watched rfl) ?_)
    exact Keeps.trans (.setLink_frame (f := linkPinReset) rfl rfl rfl rfl) (.of_watched rfl)

/-- A step carries out a command or idles, so it keeps every invariant. -/
theorem step_keeps {s t : State} (h : step s = .next t) : Keeps s t := by
  unfold step at h
  split at h
  · exact keeps_of_next h (.refl s)
  · exact (exec_keeps _ h).watched_trans rfl

/-! The statements. -/

/-- Settles O57, by what every step keeps: each write of a word keeps the canonical form. -/
theorem stepKeepsMemoryForm : Obligations.StepKeepsMemoryForm := fun _ _ hs h => (step_keeps h).memory hs

/-- Settles O58, by what every step keeps: a count clamps Pc, a step wraps the index, and only those and a reset set them. -/
theorem stepKeepsOdometryRange : Obligations.StepKeepsOdometryRange := fun _ _ hs h => (step_keeps h).odometry hs

/-- Settles O59, by what every step keeps: each append has room or takes out an item first, and each counter stops. -/
theorem stepKeepsBounds : Obligations.StepKeepsBounds := fun _ _ hcounts hcaps hcounters h =>
  ⟨(step_keeps h).counts hcounts, (step_keeps h).capacities hcaps, (step_keeps h).counters hcounters⟩

/-- Settles O60, by what every step keeps: an index joins the opening order as it opens and leaves it as it is freed. -/
theorem stepKeepsOpeningOrder : Obligations.StepKeepsOpeningOrder := fun _ _ hs h => (step_keeps h).order hs

/-- Settles O56: power-on keeps every invariant of any state, and gives each of them whatever that state meets. -/
theorem resetMeetsInvariants : Obligations.ResetMeetsInvariants := by
  refine ⟨rfl, ⟨by decide, by decide, by decide⟩, ?_, ?_, ?_, List.nodup_nil, fun i => ?_⟩
  · simp [CountsBounded, State.reset, State.powerOn, LinkUnit.powerOn, Counts.all, Counts.zero]
  · simp [Capacities, State.reset, State.powerOn, ConfUnit.powerOn, ReportUnit.powerOn, MarkerUnit.powerOn,
      LinkUnit.powerOn, GainUnit.powerOn]
  · simp [CountersInRange, State.reset, State.powerOn, RailUnit.powerOn, CouplingUnit.powerOn, TrackerUnit.powerOn,
      StoreUnit.powerOn, LinkUnit.powerOn]
  · simp [State.reset, State.powerOn, TrackerUnit.powerOn]

end Sys2Proof.Machine
end

section
/-! PROOFS. What shared operations do on sound words: the fields read of the setup records, and what the arbiter, a release and the waking of the transmitter leave. -/

namespace Sys2Proof.Machine

/-! Reads of the setup records. -/

/-- The station record whose words are given. -/
def stationBy (f : Nat → Word) : StationRecord := stationOfWords ((List.range 8).map f)

/-- The slot record whose words are given. -/
def slotBy (f : Nat → Word) : SlotRecord := slotOfWords ((List.range 12).map f)

theorem stationAt_eq (s : State) : stationAt s = stationBy fun k => (s.word k).data := rfl

theorem slotAt_eq (s : State) (n : Slot) : slotAt s n = slotBy fun k => (s.word (slotBase n + k)).data := rfl

/-- The word of a list of words read, zero where it was not read. -/
theorem pick_map (as : List Nat) (g : Nat → Word) (a : Nat) :
    pick (as.map fun b => (b, g b)) a = if a ∈ as then g a else 0 := by
  induction as with
  | nil => rfl
  | cons b rest ih =>
    unfold pick at ih ⊢
    by_cases hab : a = b
    · simp [hab]
    · simpa [List.lookup_cons, hab, beq_false_of_ne hab] using ih

/-- The station record as a read of the words `ks` gives it: the other words read as zero. -/
def stationRead (ks : List Nat) (s : State) : StationRecord :=
  stationBy fun k => if k ∈ ks then (s.word k).data else 0

/-- A slot record as a read of its words `ks` gives it: the other words read as zero. -/
def slotRead (n : Slot) (ks : List Nat) (s : State) : SlotRecord :=
  slotBy fun k => if k ∈ ks then (s.word (slotBase n + k)).data else 0

theorem readStation_sound {ks : List Nat} {s : State} (h : Sound s ks) :
    readStation ks s = (s, some (stationRead ks s)) := by
  simp only [readStation, readWords_sound h, funext (pick_map _ _)]
  rfl

theorem readStationOn_sound {ks : List Nat} {s : State} (hc : Calm s) (h : Sound s ks) :
    readStationOn ks s = (s, stationRead ks s) := by
  simp only [readStationOn, readOn_sound (fun a _ => recordGone_calm hc a) h, funext (pick_map _ _)]
  rfl

theorem readStationFor_sound {ks : List Nat} {s : State} (on : Bool) (hc : Calm s) (h : Sound s ks) :
    readStationFor on ks s = (s, some (stationRead ks s)) := by
  simp [readStationFor, readStationOn_sound hc h, readStation_sound h]

theorem readSlot_sound {n : Slot} {ks : List Nat} {s : State} (h : SoundSlot s n ks) :
    readSlot n ks s = (s, some (slotRead n ks s)) := by
  simp only [readSlot, readWords_sound h, pick_map, List.mem_map, Nat.add_left_cancel_iff, exists_eq_right]
  rfl

/-- The words of a slot's record are read also by work that has given the station record up. -/
theorem readSlotOn_sound {n : Slot} {ks : List Nat} {s : State} (h : SoundSlot s n ks) :
    readSlotOn n ks s = (s, slotRead n ks s) := by
  have hgone : ∀ a ∈ ks.map (slotBase n + ·), recordGone s a = false := by
    intro a ha
    obtain ⟨k, -, rfl⟩ := List.mem_map.mp ha
    exact recordGone_above s (by simp only [slotBase]; omega)
  simp only [readSlotOn, readOn_sound hgone h, pick_map, List.mem_map, Nat.add_left_cancel_iff, exists_eq_right]
  rfl

/-! The fields of the station record by their words (R182, R189). -/

section
variable {ks : List Nat} {s : State}

theorem stationRead_railRight (h : 0 ∈ ks) : (stationRead ks s).railRight = (stationAt s).railRight := by
  have hf (f : Nat → Word) : (stationBy f).railRight = bit (byteAt (bytesOf (f 0)) 0) 0 := rfl
  simp [stationRead, stationAt_eq, hf, h]

theorem stationRead_trigger (h : 0 ∈ ks) : (stationRead ks s).trigger = (stationAt s).trigger := by
  have hf (f : Nat → Word) :
      (stationBy f).trigger = if bit (byteAt (bytesOf (f 0)) 0) 1 then .timer else .position := rfl
  simp [stationRead, stationAt_eq, hf, h]

theorem stationRead_markClass (h : 0 ∈ ks) : (stationRead ks s).markClass = (stationAt s).markClass := by
  have hf (f : Nat → Word) : (stationBy f).markClass = bits (byteAt (bytesOf (f 0)) 0) 3 2 := rfl
  simp [stationRead, stationAt_eq, hf, h]

theorem stationRead_period (h : 1 ∈ ks) : (stationRead ks s).period = (stationAt s).period := by
  have hf (f : Nat → Word) : (stationBy f).period = u16At (bytesOf (f 1)) 2 := rfl
  simp [stationRead, stationAt_eq, hf, h]

theorem stationRead_noiseFloor (h : 2 ∈ ks) : (stationRead ks s).noiseFloor = (stationAt s).noiseFloor := by
  have hf (f : Nat → Word) : (stationBy f).noiseFloor = u16At (bytesOf (f 2)) 0 := rfl
  simp [stationRead, stationAt_eq, hf, h]

theorem stationRead_span (h : 2 ∈ ks) : (stationRead ks s).span = (stationAt s).span := by
  have hf (f : Nat → Word) : (stationBy f).span = u16At (bytesOf (f 2)) 2 := rfl
  simp [stationRead, stationAt_eq, hf, h]

theorem stationRead_window (h : 3 ∈ ks) : (stationRead ks s).window = (stationAt s).window := by
  have hf (f : Nat → Word) : (stationBy f).window = u16At (bytesOf (f 3)) 0 := rfl
  simp [stationRead, stationAt_eq, hf, h]

theorem stationRead_depthTol (h : 3 ∈ ks) : (stationRead ks s).depthTol = (stationAt s).depthTol := by
  have hf (f : Nat → Word) : (stationBy f).depthTol = byteAt (bytesOf (f 3)) 2 := rfl
  simp [stationRead, stationAt_eq, hf, h]

theorem stationRead_maxSpan (h : 3 ∈ ks) (h' : 4 ∈ ks) : (stationRead ks s).maxSpan = (stationAt s).maxSpan := by
  have hf (f : Nat → Word) :
      (stationBy f).maxSpan = byteAt (bytesOf (f 3)) 3 * 256 + byteAt (bytesOf (f 4)) 0 := rfl
  simp [stationRead, stationAt_eq, hf, h, h']

theorem stationRead_confirmTol (h : 4 ∈ ks) : (stationRead ks s).confirmTol = (stationAt s).confirmTol := by
  have hf (f : Nat → Word) : (stationBy f).confirmTol = u16At (bytesOf (f 4)) 1 := rfl
  simp [stationRead, stationAt_eq, hf, h]

theorem stationRead_watchHalf (h : 4 ∈ ks) (h' : 5 ∈ ks) :
    (stationRead ks s).watchHalf = (stationAt s).watchHalf := by
  have hf (f : Nat → Word) :
      (stationBy f).watchHalf = byteAt (bytesOf (f 4)) 3 * 256 + byteAt (bytesOf (f 5)) 0 := rfl
  simp [stationRead, stationAt_eq, hf, h, h']

theorem stationRead_watchBoost (h : 5 ∈ ks) : (stationRead ks s).watchBoost = (stationAt s).watchBoost := by
  have hf (f : Nat → Word) : (stationBy f).watchBoost = byteAt (bytesOf (f 5)) 1 := rfl
  simp [stationRead, stationAt_eq, hf, h]

theorem stationRead_statusInterval (h : 7 ∈ ks) :
    (stationRead ks s).statusInterval = (stationAt s).statusInterval := by
  have hf (f : Nat → Word) : (stationBy f).statusInterval = u16At (bytesOf (f 7)) 1 := rfl
  simp [stationRead, stationAt_eq, hf, h]

end

/-! The fields of a slot record by their words (R182, R189). -/

section
variable {n : Slot} {ks : List Nat} {s : State}

theorem slotRead_enable (h0 : 0 ∈ ks) : (slotRead n ks s).enable = (slotAt s n).enable := by
  have hf (f : Nat → Word) : (slotBy f).enable = bit (byteAt (bytesOf (f 0)) 1) 0 := rfl
  simp [slotRead, slotAt_eq, hf, h0]

theorem slotRead_divisor (h0 : 0 ∈ ks) : (slotRead n ks s).divisor = (slotAt s n).divisor := by
  have hf (f : Nat → Word) : (slotBy f).divisor = bits (byteAt (bytesOf (f 0)) 0) 4 4 := rfl
  simp [slotRead, slotAt_eq, hf, h0]

theorem slotRead_claimsRail (h0 : 0 ∈ ks) : (slotRead n ks s).claimsRail = (slotAt s n).claimsRail := by
  have hf (f : Nat → Word) : (slotBy f).claimsRail = bit (byteAt (bytesOf (f 0)) 1) 1 := rfl
  simp [slotRead, slotAt_eq, hf, h0]

theorem slotRead_autoZero (h0 : 0 ∈ ks) : (slotRead n ks s).autoZero = (slotAt s n).autoZero := by
  have hf (f : Nat → Word) : (slotBy f).autoZero = bit (byteAt (bytesOf (f 0)) 1) 2 := rfl
  simp [slotRead, slotAt_eq, hf, h0]

theorem slotRead_interfaceSync (h0 : 0 ∈ ks) : (slotRead n ks s).interfaceSync = (slotAt s n).interfaceSync := by
  have hf (f : Nat → Word) : (slotBy f).interfaceSync = bit (byteAt (bytesOf (f 0)) 1) 3 := rfl
  simp [slotRead, slotAt_eq, hf, h0]

theorem slotRead_feed (h0 : 0 ∈ ks) : (slotRead n ks s).feed = (slotAt s n).feed := by
  have hf (f : Nat → Word) : (slotBy f).feed = bit (byteAt (bytesOf (f 0)) 1) 5 := rfl
  simp [slotRead, slotAt_eq, hf, h0]

theorem slotRead_watchResponse (h0 : 0 ∈ ks) : (slotRead n ks s).watchResponse = (slotAt s n).watchResponse := by
  have hf (f : Nat → Word) : (slotBy f).watchResponse = bit (byteAt (bytesOf (f 0)) 1) 6 := rfl
  simp [slotRead, slotAt_eq, hf, h0]

theorem slotRead_sourceGateB (h0 : 0 ∈ ks) : (slotRead n ks s).sourceGateB = (slotAt s n).sourceGateB := by
  have hf (f : Nat → Word) : (slotBy f).sourceGateB = bit (byteAt (bytesOf (f 0)) 1) 7 := rfl
  simp [slotRead, slotAt_eq, hf, h0]

theorem slotRead_txPort (h0 : 0 ∈ ks) : (slotRead n ks s).txPort = (slotAt s n).txPort := by
  have hf (f : Nat → Word) : (slotBy f).txPort = Fin.ofNat 8 (bits (byteAt (bytesOf (f 0)) 2) 0 3) := rfl
  simp [slotRead, slotAt_eq, hf, h0]

theorem slotRead_rxPort (h0 : 0 ∈ ks) : (slotRead n ks s).rxPort = (slotAt s n).rxPort := by
  have hf (f : Nat → Word) : (slotBy f).rxPort = Fin.ofNat 8 (bits (byteAt (bytesOf (f 0)) 2) 3 3) := rfl
  simp [slotRead, slotAt_eq, hf, h0]

theorem slotRead_baseGain (h0 : 0 ∈ ks) : (slotRead n ks s).baseGain = (slotAt s n).baseGain := by
  have hf (f : Nat → Word) : (slotBy f).baseGain = byteAt (bytesOf (f 0)) 3 := rfl
  simp [slotRead, slotAt_eq, hf, h0]

theorem slotRead_quiet (h1 : 1 ∈ ks) : (slotRead n ks s).quiet = (slotAt s n).quiet := by
  have hf (f : Nat → Word) : (slotBy f).quiet = bits (u16At (bytesOf (f 1)) 0) 0 9 := rfl
  simp [slotRead, slotAt_eq, hf, h1]

theorem slotRead_area (h1 : 1 ∈ ks) : (slotRead n ks s).area = (slotAt s n).area := by
  have hf (f : Nat → Word) : (slotBy f).area = areaOfCode (bits (u16At (bytesOf (f 1)) 0) 12 4) := rfl
  simp [slotRead, slotAt_eq, hf, h1]

theorem slotRead_wedge (h2 : 2 ∈ ks) : (slotRead n ks s).wedge = (slotAt s n).wedge := by
  have hf (f : Nat → Word) : (slotBy f).wedge = u16At (bytesOf (f 2)) 0 := rfl
  simp [slotRead, slotAt_eq, hf, h2]

theorem slotRead_pa (h4 : 4 ∈ ks) : (slotRead n ks s).pa = (slotAt s n).pa := by
  have hf (f : Nat → Word) : (slotBy f).pa = s16At (bytesOf (f 4)) 0 := rfl
  simp [slotRead, slotAt_eq, hf, h4]

theorem slotRead_couplingThreshold (h9 : 9 ∈ ks) : (slotRead n ks s).couplingThreshold = (slotAt s n).couplingThreshold := by
  have hf (f : Nat → Word) : (slotBy f).couplingThreshold = bits (u16At (bytesOf (f 9)) 1) 0 10 := rfl
  simp [slotRead, slotAt_eq, hf, h9]

theorem slotRead_closeGap (h9 : 9 ∈ ks) : (slotRead n ks s).closeGap = (slotAt s n).closeGap := by
  have hf (f : Nat → Word) : (slotBy f).closeGap = bits (u16At (bytesOf (f 9)) 1) 10 6 := rfl
  simp [slotRead, slotAt_eq, hf, h9]

theorem slotRead_lossRun (h9 : 9 ∈ ks) : (slotRead n ks s).lossRun = (slotAt s n).lossRun := by
  have hf (f : Nat → Word) : (slotBy f).lossRun = bits (byteAt (bytesOf (f 9)) 3) 0 4 := rfl
  simp [slotRead, slotAt_eq, hf, h9]

theorem slotRead_recoveryRun (h9 : 9 ∈ ks) : (slotRead n ks s).recoveryRun = (slotAt s n).recoveryRun := by
  have hf (f : Nat → Word) : (slotBy f).recoveryRun = bits (byteAt (bytesOf (f 9)) 3) 4 4 := rfl
  simp [slotRead, slotAt_eq, hf, h9]

theorem slotRead_nrep (h10 : 10 ∈ ks) : (slotRead n ks s).nrep = (slotAt s n).nrep := by
  have hf (f : Nat → Word) : (slotBy f).nrep = byteAt (bytesOf (f 10)) 0 := rfl
  simp [slotRead, slotAt_eq, hf, h10]

theorem slotRead_nwatch (h10 : 10 ∈ ks) : (slotRead n ks s).nwatch = (slotAt s n).nwatch := by
  have hf (f : Nat → Word) : (slotBy f).nwatch = byteAt (bytesOf (f 10)) 1 := rfl
  simp [slotRead, slotAt_eq, hf, h10]

theorem slotRead_arep (h10 : 10 ∈ ks) : (slotRead n ks s).arep = (slotAt s n).arep := by
  have hf (f : Nat → Word) : (slotBy f).arep = u16At (bytesOf (f 10)) 2 := rfl
  simp [slotRead, slotAt_eq, hf, h10]

theorem slotRead_awatch (h11 : 11 ∈ ks) : (slotRead n ks s).awatch = (slotAt s n).awatch := by
  have hf (f : Nat → Word) : (slotBy f).awatch = u16At (bytesOf (f 11)) 0 := rfl
  simp [slotRead, slotAt_eq, hf, h11]

theorem slotRead_asev (h11 : 11 ∈ ks) : (slotRead n ks s).asev = (slotAt s n).asev := by
  have hf (f : Nat → Word) : (slotBy f).asev = u16At (bytesOf (f 11)) 2 := rfl
  simp [slotRead, slotAt_eq, hf, h11]

/-- Two slot records of the same words 0 to 9 differ in their thresholds alone. -/
theorem slotBy_congr {f g : Nat → Word} (h : ∀ k < 10, f k = g k) :
    slotBy f = { slotBy g with
      nrep := (slotBy f).nrep, nwatch := (slotBy f).nwatch, arep := (slotBy f).arep, awatch := (slotBy f).awatch
      asev := (slotBy f).asev } := by
  have h0 := h 0 (by decide)
  have h1 := h 1 (by decide)
  have h2 := h 2 (by decide)
  have h3 := h 3 (by decide)
  have h4 := h 4 (by decide)
  have h5 := h 5 (by decide)
  have h6 := h 6 (by decide)
  have h7 := h 7 (by decide)
  have h8 := h 8 (by decide)
  have h9 := h 9 (by decide)
  simp only [slotBy, slotOfWords, List.range, List.range.loop, List.map_cons, List.map_nil, h0, h1, h2, h3, h4, h5, h6, h7,
    h8, h9]
  rfl

end

/-! Tables kept per cause. -/

@[simp] theorem PerCause.all_get {α : Type} (x : α) (c : GapCause) : (PerCause.all x).get c = x := by
  cases c <;> rfl

/-- The value of a cause after one cause's value is replaced. -/
theorem PerCause.get_set {α : Type} (p : PerCause α) (c k : GapCause) (x : α) :
    (p.set c x).get k = if k = c then x else p.get k := by
  cases c <;> cases k <;> rfl

end Sys2Proof.Machine
end

section
/-! PROOFS. The queue, power-on and the RESET pin, and what the arbiter, a release and the waking of the transmitter leave. -/

namespace Sys2Proof.Machine

/-! What the ends of a command leave. -/

/-- The waking of the transmitter changes the access state and its wait alone (R179). -/
theorem linkWake_frame (s : State) :
    ∃ a w, linkWake s = { s with link := { s.link with access := a, wait := w } } := by
  obtain h | ⟨-, -, h⟩ := linkWake_cases s
  · exact ⟨s.link.access, s.link.wait, h⟩
  · exact ⟨_, _, h⟩

/-- The arbiter changes the grant, what stands at it, and the granted scrub request alone (R171). -/
theorem arbitrate_frame (s : State) :
    ∃ g r k q, arbitrate s = { s with store := { s.store with grant := g, grantRun := r, grantShots := k, scrubReq := q } } := by
  obtain ⟨-, h⟩ | ⟨-, -, h⟩ | ⟨g, -, -, h⟩ := arbitrate_cases s
  · exact ⟨s.store.grant, s.store.grantRun, s.store.grantShots, s.store.scrubReq, h⟩
  · exact ⟨s.store.grant, s.store.grantRun, s.store.grantShots, s.store.scrubReq, h⟩
  · exact ⟨_, _, _, _, h⟩

/-- A command that ends with a grant and a waking changes nothing else by them. -/
theorem wakeArbitrate_frame (s : State) :
    ∃ g r k q a w, linkWake (arbitrate s) = { s with
      store := { s.store with grant := g, grantRun := r, grantShots := k, scrubReq := q }
      link := { s.link with access := a, wait := w } } := by
  obtain ⟨g, r, k, q, harb⟩ := arbitrate_frame s
  obtain ⟨a, w, hwake⟩ := linkWake_frame (arbitrate s)
  exact ⟨g, r, k, q, a, w, by rw [hwake, harb]⟩

/-- A release with no damage met in the station record changes the grant and the access state alone (R171, R179). -/
theorem release_frame {s : State} (h : Calm s) :
    ∃ g r k q a w, release s = { s with
      store := { s.store with grant := g, grantRun := r, grantShots := k, scrubReq := q }
      link := { s.link with access := a, wait := w } } := by
  obtain ⟨g, r, k, q, a, w, hrel⟩ := wakeArbitrate_frame (s.withGrant none)
  exact ⟨g, r, k, q, a, w, by rw [release_calm h, hrel]; rfl⟩

/-- A state that differs from a calm one in other things than the store is calm. -/
theorem Calm.congr {s t : State} (h : Calm s) (hc : t.store.clearAtRelease = s.store.clearAtRelease) : Calm t :=
  hc.trans h

/-! The queue and power-on. -/

/-- Settles O1: the step looks at the queue alone. -/
theorem stepTakesTheQueue : Obligations.StepTakesTheQueue := by
  refine ⟨fun c q s h => ?_, fun s h => ?_⟩
  · simp [step, h, State.withPending]
  · simp [step, h]

/-- The store cleared holds cleared words (R175). -/
theorem powerOn_word (e : BitVec 2) (pulled : Bool) (straps : Fin 8) (q : List Instr) (a : Nat) :
    ((State.powerOn e pulled straps).withPending q).word a = clearedWord := rfl

/-- A slot record of cleared words is not enabled. -/
theorem powerOn_enable (e : BitVec 2) (pulled : Bool) (straps : Fin 8) (q : List Instr) (n : Slot) :
    (slotAt ((State.powerOn e pulled straps).withPending q) n).enable = false := by
  have hzero : (slotBy fun _ => 0).enable = false := by decide
  exact hzero

/-- Settles O3: every value is the one that the block's power-on values give. -/
theorem powerOnBlocks : Obligations.PowerOnBlocks := by
  intro e pulled straps s
  refine ⟨_, exec_powerOnReset_eq e pulled straps s, rfl, rfl, fun _ => rfl, fun n => powerOn_enable e pulled straps s.pending n, ?_⟩
  have hstore : ((State.powerOn e pulled straps).withPending s.pending).store = StoreUnit.powerOn := rfl
  have hsched : ((State.powerOn e pulled straps).withPending s.pending).sched = Scheduler.powerOn := rfl
  have hrail : ((State.powerOn e pulled straps).withPending s.pending).rail = RailUnit.powerOn pulled := rfl
  have hgain : ((State.powerOn e pulled straps).withPending s.pending).gain = GainUnit.powerOn := rfl
  have hgates : ((State.powerOn e pulled straps).withPending s.pending).gates = GateUnit.powerOn := rfl
  have hcoup : ((State.powerOn e pulled straps).withPending s.pending).coup = CouplingUnit.powerOn := rfl
  have htrk : ((State.powerOn e pulled straps).withPending s.pending).trk = TrackerUnit.powerOn := rfl
  have hconf : ((State.powerOn e pulled straps).withPending s.pending).conf = ConfUnit.powerOn := rfl
  have hrep : ((State.powerOn e pulled straps).withPending s.pending).rep = ReportUnit.powerOn := rfl
  have hmark : ((State.powerOn e pulled straps).withPending s.pending).mark = MarkerUnit.powerOn := rfl
  have hlink : ((State.powerOn e pulled straps).withPending s.pending).link = LinkUnit.powerOn := rfl
  rw [hstore, hsched, hrail, hgain, hgates, hcoup, htrk, hconf, hrep, hmark, hlink]
  cases pulled <;>
  simp [StoreUnit.powerOn, scrubPeriod, Scheduler.powerOn, RailUnit.powerOn, GainUnit.powerOn, GateUnit.powerOn,
    CouplingUnit.powerOn, SlotCoupling.fresh, TrackerUnit.powerOn, ConfUnit.powerOn, ReportUnit.powerOn,
    MarkerUnit.powerOn, LinkUnit.powerOn, statusPeriod, Counts.all, Counts.zero]

/-- Settles O4: the pin's command sets these fields and no other. -/
theorem resetPinCutsOff : Obligations.ResetPinCutsOff := fun _ =>
  ⟨_, rfl, rfl, rfl, rfl, rfl, rfl, rfl, rfl, rfl, rfl, rfl, rfl, rfl, rfl, rfl, rfl, rfl, rfl, rfl, rfl⟩

/-! The arbiter (R170, R171). -/

/-- A selection that accepts no request finds none. -/
theorem takeGroups_none {α : Type} {f : ShotReq → Option α} (hf : ∀ r, f r = none) (l : List (List ShotReq)) :
    takeGroups f l = none := by
  have hgroup {g : ShotReq → Option α} (hg : ∀ r, g r = none) (rs : List ShotReq) : takeFirst g rs = none := by
    induction rs with
    | nil => rfl
    | cons r rest ih => simp [takeFirst, hg r, ih]
  induction l generalizing f with
  | nil => rfl
  | cons g rest ih =>
    have hpass : ∀ r, passing f r = none := fun r => by simp [passing, hf r]
    simp [takeGroups, hgroup hf, ih hpass]

/-- Behind an expiry test alone no formation is found: it may not pass it (log 33). -/
theorem takeGroups_asFormation {pc : Int} {dir : Dir} {l : List (List ShotReq)} :
    takeGroups asFormation ([.expiry pc dir] :: l) = none := by
  have hpass (r : ShotReq) : passing asFormation r = none := by cases r <;> rfl
  simp [takeGroups, takeFirst, asFormation, takeGroups_none hpass]

/-- Without the grant no request of shot processing is taken. -/
theorem takeShot_ungranted {α : Type} {s : State} (f : ShotReq → Option α) (h : s.store.grant ≠ some .shot) :
    takeShot f s = none := by
  simp [takeShot, grants, h]

/-- Without the grant no request of the link receiver is taken. -/
theorem takeRx_ungranted {α : Type} {s : State} (f : RxReq → Option α) (h : s.store.grant ≠ some .receiver) :
    takeRx f s = none := by
  simp [takeRx, grants, h]

/-- Without the grant no request of the link transmitter is taken. -/
theorem takeTx_ungranted {α : Type} {s : State} (f : TxReq → Option α) (h : s.store.grant ≠ some .transmitter) :
    takeTx f s = none := by
  simp [takeTx, grants, h]

/-- A command of shot processing that finds its request not granted changes nothing (log 2). -/
theorem exec_of_takeShot_none {s : State} (h : ∀ {α : Type} (f : ShotReq → Option α), takeShot f s = none) :
    ∀ c ∈ [Instr.roundFormation, .turnReads, .inZoneQuestion, .shotProcessing, .expiryTest, .reversalSweep, .haltSweep,
      .endSweep], exec c s = .next s := by
  simp [exec, execRoundFormation, execTurnReads, execInZoneQuestion, execShotProcessing, execExpiryTest,
    execReversalSweep, execHaltSweep, execEndSweep, runSweep, h]

/-- A command of the link receiver that finds its request not granted changes nothing (log 2). -/
theorem exec_of_takeRx_none {s : State} (h : ∀ {α : Type} (f : RxReq → Option α), takeRx f s = none) :
    ∀ c ∈ [Instr.setupFrameStore, .closeSetupChecks, .peerFrameJoin, .stationResetClearing], exec c s = .next s := by
  simp [exec, execSetupFrameStore, runSetupStore, execCloseSetupChecks, execPeerFrameJoin, execStationResetClearing, h]

/-- A command of the link transmitter that finds its request not granted changes nothing (log 2). -/
theorem exec_of_takeTx_none {s : State} (h : ∀ {α : Type} (f : TxReq → Option α), takeTx f s = none) :
    ∀ c ∈ [Instr.transmitterRead, .fifoRemoval], exec c s = .next s := by
  simp [exec, execTransmitterRead, execFifoRemoval, h]

/-- Settles O8: the order is that of `nextGrant`'s branches; a command without its grant finds no request to take. -/
theorem arbiterPriority : Obligations.ArbiterPriority := by
  intro s urgent
  have hurgent : (s.store.scrubReq && (s.store.scrubUrgent || decide (4 ≤ s.store.scrubWait))) = decide urgent := by
    simp [urgent]
  refine ⟨?_, ?_, ?_, ?_, ?_, ?_, ?held, ?free, ?granted, release_calm, ?taken, ?formation, ?shot, ?receiver, ?transmitter,
    ?marker, ?scrubber⟩
  case held =>
    intro h
    simp [arbitrate, Option.isSome_iff_ne_none.mpr h]
  case free =>
    intro hfree hnone
    simp [arbitrate, hfree, hnone]
  case granted =>
    intro g hfree hsome
    simp [arbitrate, hfree, hsome, grantTo]
  case taken =>
    intro α f x t h
    obtain ⟨hgrant, left, -, ht⟩ := takeShot_spec h
    exact ⟨hgrant, left, ht⟩
  case formation =>
    intro pc dir rest hreqs
    have hnone : takeShot asFormation s = none := by
      cases hk : s.store.grantShots with
      | zero => simp [takeShot, takeGroups, hk]
      | succ k => simp [takeShot, hreqs, hk, takeGroups_asFormation]
    simp [exec, execRoundFormation, hnone]
  case shot => exact fun h => exec_of_takeShot_none (takeShot_ungranted · h)
  case receiver => exact fun h => exec_of_takeRx_none (takeRx_ungranted · h)
  case transmitter => exact fun h => exec_of_takeTx_none (takeTx_ungranted · h)
  case marker =>
    intro h
    simp [exec, execMarkerTest, grants, h]
  case scrubber =>
    intro h
    simp [exec, execScrubRead, grants, h]
  all_goals
    simp only [nextGrant, hurgent]
    intros
    simp_all

end Sys2Proof.Machine
end

section
/-! PROOFS. Coverage gaps (06) and the gap list (R106, R188): what a skip, a touch and a closure of gaps change, and what they leave. -/

namespace Sys2Proof.Machine

/-! Tables by slot and cause. -/

/-- A table by slot and cause after the value of one slot and cause is replaced. -/
theorem put_set_get {α : Type} (v : Vector (PerCause α) 12) (n m : Slot) (c k : GapCause) (x : α) :
    ((put v n ((v[n]).set c x))[m]).get k = if m = n ∧ k = c then x else (v[m]).get k := by
  rw [put_get]
  by_cases hm : m = n
  · subst hm
    simp [PerCause.get_set]
  · simp [hm]

/-- The untold marks after one of them is set or cleared. -/
theorem setUntold_get (n m : Slot) (c k : GapCause) (b : Bool) (s : State) :
    ((setUntold n c b s).link.untold[m]).get k = if m = n ∧ k = c then b else (s.link.untold[m]).get k :=
  put_set_get s.link.untold n m c k b

/-- The open gaps after one of them is replaced. -/
theorem setGap_get (n m : Slot) (c k : GapCause) (g : Option Gap) (s : State) :
    ((setGap n c g s).coup.gaps[m]).get k = if m = n ∧ k = c then g else (s.coup.gaps[m]).get k :=
  put_set_get s.coup.gaps n m c k g

/-! The hand-over of a gap record (R188). -/

/-- The first open record of the slot and cause is the one updated. -/
theorem updateOpen_append {r g : GapRecord} {before after : List GapRecord}
    (hg : g.isOpen = true ∧ g.slot = r.slot ∧ g.cause = r.cause)
    (hb : ∀ h ∈ before, ¬(h.isOpen = true ∧ h.slot = r.slot ∧ h.cause = r.cause)) :
    updateOpen r (before ++ g :: after) = some (before ++ { g with toPos := r.toPos, isOpen := r.isOpen } :: after) := by
  induction before with
  | nil => simp [updateOpen, hg]
  | cons h rest ih =>
    have hrest := ih fun x hx => hb x (List.mem_cons_of_mem h hx)
    simp only [List.cons_append, updateOpen, if_neg (hb h List.mem_cons_self), hrest, Option.map_some]

/-- Without an open record of the slot and cause none is updated. -/
theorem updateOpen_none {r : GapRecord} {l : List GapRecord}
    (hl : ∀ h ∈ l, ¬(h.isOpen = true ∧ h.slot = r.slot ∧ h.cause = r.cause)) : updateOpen r l = none := by
  induction l with
  | nil => rfl
  | cons h rest ih =>
    have hrest := ih fun x hx => hl x (List.mem_cons_of_mem h hx)
    simp only [updateOpen, if_neg (hl h List.mem_cons_self), hrest, Option.map_none]

/-- The Link Controller with another count of untold gaps, other gap list and untold marks. -/
def LinkUnit.withGaps (l : LinkUnit) (count : Nat) (gaps : List GapRecord) (untold : Vector (PerCause Bool) 12) : LinkUnit :=
  { l with counts := { l.counts with untoldGaps := count }, gapList := gaps, untold := untold }

/-- A hand-over changes the gap list, the untold marks and their count alone. -/
theorem handOver_frame (r : GapRecord) (s : State) :
    ∃ c l u, handOver r s = { s with link := s.link.withGaps c l u } := by
  have hself : s = { s with link := s.link.withGaps s.link.counts.untoldGaps s.link.gapList s.link.untold } := rfl
  unfold handOver
  split
  · exact ⟨_, _, _, rfl⟩
  · split
    · exact ⟨_, _, _, rfl⟩
    · dsimp only
      split <;> split
      · exact ⟨_, _, _, hself⟩
      · exact ⟨_, _, _, rfl⟩
      · exact ⟨_, _, _, rfl⟩
      · exact ⟨_, _, _, rfl⟩

/-- What work on gaps leaves: it changes the open gaps, the gap list, the untold marks and their count alone. -/
def GapWork (s t : State) : Prop :=
  ∃ gaps c l u, t = { s with coup := { s.coup with gaps := gaps }, link := s.link.withGaps c l u }

theorem GapWork.refl (s : State) : GapWork s s := ⟨s.coup.gaps, s.link.counts.untoldGaps, s.link.gapList, s.link.untold, rfl⟩

theorem GapWork.trans {s t u : State} (h : GapWork s t) (k : GapWork t u) : GapWork s u := by
  obtain ⟨g, c, l, m, rfl⟩ := h
  obtain ⟨g', c', l', m', rfl⟩ := k
  exact ⟨g', c', l', m', rfl⟩

theorem handOver_gapWork (r : GapRecord) (s : State) : GapWork s (handOver r s) := by
  obtain ⟨c, l, u, h⟩ := handOver_frame r s
  exact ⟨s.coup.gaps, c, l, u, h⟩

/-- The hand-over leaves the open gaps. -/
theorem handOver_coup (r : GapRecord) (s : State) : (handOver r s).coup = s.coup := by
  obtain ⟨c, l, u, h⟩ := handOver_frame r s
  rw [h]

/-- The hand-over looks at the Link Controller alone. -/
theorem handOver_link (r : GapRecord) {s t : State} (h : s.link = t.link) : (handOver r s).link = (handOver r t).link := by
  obtain ⟨⟩ := s
  obtain ⟨⟩ := t
  obtain rfl := h
  unfold handOver untoldMark
  dsimp only
  split
  · rfl
  · split
    · rfl
    · split <;> split <;> rfl

/-! Open gaps (R103 to R106). -/

theorem touchGap_gapWork (n : Slot) (c : GapCause) (start pos : Int) (s : State) : GapWork s (touchGap n c start pos s) :=
  GapWork.trans ⟨_, _, _, _, rfl⟩ (handOver_gapWork _ _)

theorem closeGap_gapWork (n : Slot) (c : GapCause) (s : State) : GapWork s (closeGap n c s) := by
  unfold closeGap
  split
  · exact .refl s
  · exact GapWork.trans ⟨_, _, _, _, rfl⟩ (handOver_gapWork _ _)

/-- The open gaps after a gap opens or extends. -/
theorem touchGap_get (n m : Slot) (c k : GapCause) (start pos : Int) (s : State) :
    ((touchGap n c start pos s).coup.gaps[m]).get k =
      if m = n ∧ k = c then some ⟨(((s.coup.gaps[n]).get c).map (·.fromPos)).getD start, pos⟩
      else (s.coup.gaps[m]).get k := by
  unfold touchGap
  dsimp only
  rw [handOver_coup, setGap_get]
  unfold openGap
  cases (s.coup.gaps[n]).get c <;> rfl

/-- The open gaps after a gap closes. -/
theorem closeGap_get (n m : Slot) (c k : GapCause) (s : State) :
    ((closeGap n c s).coup.gaps[m]).get k = if m = n ∧ k = c then none else (s.coup.gaps[m]).get k := by
  unfold closeGap openGap
  split
  · rename_i hnone
    split
    · rename_i hmk
      rw [hmk.1, hmk.2, hnone]
    · rfl
  · rw [handOver_coup, setGap_get]

/-- A gap that opens or extends is handed over open (R106). -/
theorem touchGap_link (n : Slot) (c : GapCause) (start pos : Int) (s : State) :
    (touchGap n c start pos s).link =
      (handOver ⟨n, c, (((s.coup.gaps[n]).get c).map (·.fromPos)).getD start, pos, true⟩ s).link := by
  unfold touchGap openGap
  cases (s.coup.gaps[n]).get c <;> exact handOver_link _ rfl

/-- A gap that closes is handed over closed (R106). -/
theorem closeGap_link {n : Slot} {c : GapCause} {s : State} {g : Gap} (h : (s.coup.gaps[n]).get c = some g) :
    (closeGap n c s).link = (handOver ⟨n, c, g.fromPos, g.toPos, false⟩ s).link := by
  simp only [closeGap, openGap, h]
  exact handOver_link _ rfl

/-- A second skip at one position changes nothing more. -/
theorem gapAfter_gapAfter (g : Option Gap) (p q : Prop) [Decidable p] [Decidable q] (pos : Int) :
    gapAfter (gapAfter g p pos) q pos = gapAfter g (p ∨ q) pos := by
  by_cases hp : p <;> by_cases hq : q <;> simp [gapAfter, hp, hq]

theorem gapAfter_true {p : Prop} [Decidable p] (h : p) (g : Option Gap) (pos : Int) :
    gapAfter g p pos = some ⟨(g.map (·.fromPos)).getD pos, pos⟩ := if_pos h

theorem gapAfter_false {p : Prop} [Decidable p] (h : ¬p) (g : Option Gap) (pos : Int) : gapAfter g p pos = g := if_neg h

/-- The open gaps after one skip (R28, R103). -/
theorem skipGap_get (n m : Slot) (c k : GapCause) (pos : Int) (s : State) :
    ((skipGap n c pos s).coup.gaps[m]).get k =
      if k = c then gapAfter ((s.coup.gaps[m]).get c) (m = n) pos else (s.coup.gaps[m]).get k := by
  rw [skipGap, touchGap_get]
  by_cases hm : m = n
  · subst hm
    simp [gapAfter]
  · by_cases hk : k = c <;> simp [hm, hk, gapAfter]

theorem skipAll_gapWork (c : GapCause) (pos : Int) (ns : List Slot) (s : State) : GapWork s (skipAll c pos ns s) :=
  foldl_keeps (P := GapWork s) (fun t n h => h.trans (touchGap_gapWork n c pos pos t)) ns s (.refl s)

/-- The open gaps after several skips at one position. -/
theorem skipAll_get (c k : GapCause) (pos : Int) (ns : List Slot) (m : Slot) (s : State) :
    ((skipAll c pos ns s).coup.gaps[m]).get k =
      if k = c then gapAfter ((s.coup.gaps[m]).get c) (m ∈ ns) pos else (s.coup.gaps[m]).get k := by
  induction ns generalizing s with
  | nil => by_cases hk : k = c <;> simp [skipAll, gapAfter, hk]
  | cons n rest ih =>
    have hcons : skipAll c pos (n :: rest) s = skipAll c pos rest (skipGap n c pos s) := rfl
    rw [hcons, ih, skipGap_get, skipGap_get]
    by_cases hk : k = c
    · simp only [hk, if_true, gapAfter_gapAfter, List.mem_cons]
    · simp [hk]

/-- A valid shot closes every gap of its slot, and no gap of another (R105). -/
theorem closeGaps_get (n m : Slot) (k : GapCause) (s : State) :
    ((closeGaps n s).coup.gaps[m]).get k = if m = n then none else (s.coup.gaps[m]).get k := by
  simp only [closeGaps, allCauses, List.foldl_cons, List.foldl_nil, closeGap_get]
  by_cases hm : m = n
  · cases k <;> simp [hm]
  · simp [hm]

theorem closeGaps_gapWork (n : Slot) (s : State) : GapWork s (closeGaps n s) :=
  foldl_keeps (P := GapWork s) (fun t c h => h.trans (closeGap_gapWork n c t)) allCauses s (.refl s)

/-! The statement. -/

/-- What a hand-over makes of the gap list, by the state of that list (R188). -/
theorem handOver_rule (s : State) (r : GapRecord) :
    let t := handOver r s
    let mine := fun g : GapRecord => g.isOpen = true ∧ g.slot = r.slot ∧ g.cause = r.cause
    let told := fun (u : State) (b : Bool) => (u.link.untold[r.slot]).get r.cause = b ∧
      ∀ (n : Slot) (c : GapCause), ¬(n = r.slot ∧ c = r.cause) → (u.link.untold[n]).get c = (s.link.untold[n]).get c
    (∀ before g after, s.link.gapList = before ++ g :: after → mine g → (∀ h ∈ before, ¬mine h) →
      t.link = { s.link with gapList := before ++ { g with toPos := r.toPos, isOpen := r.isOpen } :: after }) ∧
    ((∀ h ∈ s.link.gapList, ¬mine h) → s.link.gapList.length < 8 →
      t.link.gapList = s.link.gapList ++ [r] ∧ told t false ∧ t.link.counts = s.link.counts) ∧
    ((∀ h ∈ s.link.gapList, ¬mine h) → 8 ≤ s.link.gapList.length →
      t.link.gapList = s.link.gapList ∧ told t r.isOpen ∧
      t.link.counts = { s.link.counts with untoldGaps :=
        (if (s.link.untold[r.slot]).get r.cause = true then s.link.counts.untoldGaps
        else min 255 (s.link.counts.untoldGaps + 1)) }) := by
  intro t mine told
  refine ⟨fun before g after hlist hmine hfirst => ?_, fun hnone hroom => ?_, fun hnone hfull => ?_⟩
  · simp only [t, handOver, hlist, updateOpen_append hmine hfirst]
  · have ht : t = setUntold r.slot r.cause false { s with link := { s.link with gapList := s.link.gapList ++ [r] } } := by
      simp only [t, handOver, updateOpen_none hnone, if_pos hroom]
    rw [ht]
    refine ⟨rfl, ⟨?_, fun n c hother => ?_⟩, rfl⟩
    · rw [setUntold_get, if_pos ⟨rfl, rfl⟩]
    · rw [setUntold_get, if_neg hother]
  · have ht : t = (fun s1 => if r.isOpen then s1 else setUntold r.slot r.cause false s1)
        (if untoldMark s r.slot r.cause then s else setUntold r.slot r.cause true (s.count addUntoldGaps)) := by
      simp only [t, handOver, updateOpen_none hnone, if_neg (Nat.not_lt.mpr hfull)]
    have hmark : untoldMark s r.slot r.cause = (s.link.untold[r.slot]).get r.cause := rfl
    rw [ht, hmark]
    have hset (u : State) (b : Bool) : ((setUntold r.slot r.cause b u).link.untold[r.slot]).get r.cause = b := by
      rw [setUntold_get, if_pos ⟨rfl, rfl⟩]
    have hkept (u : State) (b : Bool) (n : Slot) (c : GapCause) (h : ¬(n = r.slot ∧ c = r.cause)) :
        ((setUntold r.slot r.cause b u).link.untold[n]).get c = (u.link.untold[n]).get c := by
      rw [setUntold_get, if_neg h]
    cases hm : (s.link.untold[r.slot]).get r.cause <;> cases r.isOpen
    · exact ⟨rfl, ⟨hset _ _, fun n c h => (hkept _ _ n c h).trans (hkept _ _ n c h)⟩, rfl⟩
    · exact ⟨rfl, ⟨hset _ _, fun n c h => hkept _ _ n c h⟩, rfl⟩
    · exact ⟨rfl, ⟨hset _ _, fun n c h => hkept _ _ n c h⟩, rfl⟩
    · exact ⟨rfl, ⟨hm, fun n c _ => rfl⟩, rfl⟩

/-- Settles O32: by what a hand-over does to the list, and by which record each act on a gap hands over. -/
theorem gapListHandOver : Obligations.GapListHandOver := by
  refine ⟨fun s r => ?_, fun s n c start pos => ?_⟩
  · obtain ⟨k, l, u, hframe⟩ := handOver_frame r s
    refine ⟨handOver_coup r s, ?_, ?_, ?_, handOver_rule s r⟩ <;> rw [hframe]
  · refine ⟨⟨touchGap_link n c start pos s, ?_⟩, fun hnone => ?_, fun g hsome => ⟨closeGap_link hsome, ?_⟩,
      fun m k hother => ⟨?_, ?_⟩⟩
    · rw [touchGap_get, if_pos ⟨rfl, rfl⟩]
    · simp only [closeGap, openGap, hnone]
    · rw [closeGap_get, if_pos ⟨rfl, rfl⟩]
    · rw [touchGap_get, if_neg hother]
    · rw [closeGap_get, if_neg hother]

end Sys2Proof.Machine
end

section
/-! PROOFS. Track position (01): the counts, the step and the reversal. The marker (09): its test. -/

namespace Sys2Proof.Machine

/-! Counts (R1, R5 to R9). -/

/-- R1: the pairs of the table are decoded as counts of their sense. -/
theorem decodePair_eq_count : ∀ x ∈ legalTransitions, decodePair x.1 x.2.1 = .count x.2.2 := by decide

/-- The clamp of a position (R5). -/
theorem clampPos_eq (x : Int) : clampPos x = max (-2147483647) (min 2147483647 x) := rfl

/-- The position-limit flag tells that the clamp changed the target (R6). -/
theorem posLimit_iff (x : Int) : (!inPosRange x) = true ↔ x ≠ clampPos x := by
  have hin : inPosRange x = true ↔ -2147483647 ≤ x ∧ x ≤ 2147483647 := by
    rw [inPosRange, Bool.and_eq_true, decide_eq_true_iff, decide_eq_true_iff]
    rfl
  rw [Bool.not_eq_true', ← Bool.not_eq_true, hin, clampPos_eq]
  omega

/-- The target of a count by its sense (R5). -/
theorem countTarget_eq (o : Odometry) (c : Dir) :
    countTarget o c = o.pc + (match c with | .plus => 1 | .minus => -1) * (o.countLen : Int) := by
  cases c <;> rfl

/-- The marker unit after a count that changed Pc (R159). -/
def MarkerUnit.offered (u : MarkerUnit) (oldPc newPc : Int) : MarkerUnit :=
  { u with
    least := min u.least (min (oldPc + u.gunOffset) (newPc + u.gunOffset))
    greatest := max u.greatest (max (oldPc + u.gunOffset) (newPc + u.gunOffset))
    latest := newPc + u.gunOffset }

/-- A count changes the odometry, and the marker unit and its request when Pc changed (R5, R159). -/
theorem takeCount_eq (c : Dir) (s : State) :
    takeCount c s = { s with
      odo := countOdo s.odo c
      mark := if (countOdo s.odo c).pc = s.odo.pc then s.mark else s.mark.offered s.odo.pc (countOdo s.odo c).pc
      store := { s.store with
        markerReq := if (countOdo s.odo c).pc = s.odo.pc then s.store.markerReq else true } } := by
  unfold takeCount
  dsimp only
  split
  · rfl
  · rfl

/-- What a count leaves of the odometry (R5). -/
theorem countOdo_frame (o : Odometry) (c : Dir) :
    (countOdo o c).ref = o.ref ∧ (countOdo o c).pc = clampPos (countTarget o c) ∧
      (countOdo o c).posLimit = !inPosRange (countTarget o c) ∧ (countOdo o c).dir = o.dir ∧
      (countOdo o c).index = o.index ∧ (countOdo o c).countLen = o.countLen ∧
      (countOdo o c).stepCounts = o.stepCounts ∧ (countOdo o c).hyst = o.hyst ∧ (countOdo o c).ps = o.ps := by
  unfold countOdo
  dsimp only
  split
  · exact ⟨rfl, rfl, rfl, rfl, rfl, rfl, rfl, rfl, rfl⟩
  · exact ⟨rfl, rfl, rfl, rfl, rfl, rfl, rfl, rfl, rfl⟩

/-- R7: a count with Dir. -/
theorem countOdo_of_eq {o : Odometry} {c : Dir} (h : c = o.dir) :
    (countOdo o c).revRun = 0 ∧ (countOdo o c).acc = o.acc + 1 ∧ (countOdo o c).revReached = o.revReached ∧
      (countOdo o c).stepReached = decide (o.stepCounts ≤ o.acc + 1) := by
  rw [countOdo, if_pos h]
  exact ⟨rfl, rfl, rfl, rfl⟩

/-- R9: a count against Dir. -/
theorem countOdo_of_ne {o : Odometry} {c : Dir} (h : c ≠ o.dir) :
    (countOdo o c).acc = 0 ∧ (countOdo o c).revRun = o.revRun + 1 ∧ (countOdo o c).stepReached = o.stepReached ∧
      (countOdo o c).revReached = decide (o.hyst ≤ o.revRun + 1) := by
  rw [countOdo, if_neg h]
  exact ⟨rfl, rfl, rfl, rfl⟩

/-- Settles O5: the pair decodes as a count of the table's sense, and the count's parts are those of the Odometry Unit and
of the offer. -/
theorem legalTransitionCounts : Obligations.LegalTransitionCounts := by
  intro s pair c hs hlegal target pc g
  obtain ⟨hstep, hrev⟩ := hs
  have hdecode : decodePair s.odo.ref pair = .count c := decodePair_eq_count _ hlegal
  let o : Odometry := { s.odo with ref := pair }
  have htarget : countTarget o c = target := countTarget_eq o c
  obtain ⟨href, hpc, hlimit, hdir, hindex, hlen, hcounts, hhyst, hps⟩ := countOdo_frame o c
  rw [htarget] at hpc hlimit
  refine ⟨countOdo o c, if (countOdo o c).pc = s.odo.pc then s.mark else s.mark.offered s.odo.pc (countOdo o c).pc,
    if (countOdo o c).pc = s.odo.pc then s.store.markerReq else true, ?_, href, hpc, ?_, hdir, hindex, hlen, hcounts, hhyst, hps, fun h => ?_, fun h => ?_,
    fun h => ?_, fun h => ?_⟩
  · simp only [exec_encoderTransition_eq, execEncoderTransition, settleCount_settled hstep hrev, hdecode, takeCount_eq,
      Bool.or_eq_true]
    rfl
  · rw [hlimit]
    exact posLimit_iff target
  · obtain ⟨hrun, hacc, hreached, hat⟩ := countOdo_of_eq (o := o) h
    exact ⟨hrun, hacc, hreached.trans hrev, by rw [hat]; exact decide_eq_true_iff⟩
  · obtain ⟨hacc, hrun, hreached, hat⟩ := countOdo_of_ne (o := o) h
    exact ⟨hacc, hrun, hreached.trans hstep, by rw [hat]; exact decide_eq_true_iff⟩
  · have hsame : (countOdo o c).pc = s.odo.pc := hpc.trans h
    exact ⟨if_pos hsame, if_pos hsame⟩
  · have hother : (countOdo o c).pc ≠ s.odo.pc := fun hsame => h (hpc.symm.trans hsame)
    refine ⟨if_neg hother, (if_neg hother).trans ?_⟩
    rw [hpc]
    rfl

/-! The step and the reversal (R8, R10). -/

/-- The formation request of a step event on a sound station record (R19). -/
theorem stepFormation_sound (index : Nat) {s : State} (hc : Calm s) (h : Sound s [0]) :
    stepFormation index s = (s, if s.link.run = .run ∧ (stationAt s).trigger = .position then
      [.formation .step (some index) s.odo.pc true] else []) := by
  simp only [stepFormation, readStationOn_sound hc h, stationRead_trigger (List.mem_singleton.mpr rfl)]
  by_cases hrun : s.link.run = .run
  · simp [hrun]
  · simp [hrun]

/-- Settles O7: the step raises its requests from the words as they stand; the reversal reads none. -/
theorem stepAndReversalEvents : Obligations.StepAndReversalEvents := by
  constructor
  · intro s hreached hsound hcalm index
    have hfinish {t : State} (ht : Calm t) : finish t = arbitrate t := finish_calm ht
    simp only [exec, execStep, if_pos hreached, takeStep]
    rw [stepFormation_sound _ (by exact hcalm) (by exact hsound), hfinish (by exact hcalm)]
    rfl
  · intro s hreached dir
    have hdir : s.odo.dir.flip = dir := by
      unfold dir
      cases s.odo.dir <;> rfl
    simp only [exec, execReversal, if_pos hreached, takeReversal, hdir]
    rfl

/-! The marker's test (R159 to R161). -/

/-- The reads of the sound items of a collection change nothing. -/
theorem readItems_sound {α : Type} {base : Nat → Nat} {size : Nat} {l : List (Placed α)} {s : State}
    (h : SoundItems s base size l) : (l.map (·.place)).foldl (fun s p => readItem (base p) size s) s = s := by
  induction l with
  | nil => rfl
  | cons x rest ih =>
    have hx : readItem (base x.place) size s = s :=
      readItem_sound fun k hk => h x List.mem_cons_self _ (List.mem_map.mpr ⟨k, List.mem_range.mpr hk, rfl⟩)
    rw [List.map_cons, List.foldl_cons, hx]
    exact ih fun y hy => h y (List.mem_cons_of_mem x hy)

/-- The reads of sound marks change nothing. -/
theorem readMarks_sound {s : State} (h : SoundItems s markBase 2 s.mark.marks) : readMarks s = s := readItems_sound h

/-- The firings of a test in PULSE mode start the pulse timer afresh (R160). -/
theorem foldl_fireMark_pulse (l : List (Placed Mark)) {u : MarkerUnit} (h : u.mode = .pulse) :
    l.foldl (fun v x => fireMark x.item.pos v) u =
      if l = [] then u else { u with on := true, pulseTimer := some u.pulse } := by
  induction l generalizing u with
  | nil => rfl
  | cons x rest ih =>
    have hfire : fireMark x.item.pos u = { u with on := true, pulseTimer := some u.pulse } := by simp only [fireMark, h]
    rw [List.foldl_cons, hfire, ih (u := { u with on := true, pulseTimer := some u.pulse }) h]
    cases rest <;> rfl

/-- The firings of a test in LEVEL mode leave the last of them as the reference (R161). -/
theorem foldl_fireMark_level (l : List (Placed Mark)) {u : MarkerUnit} (h : u.mode = .level) :
    l.foldl (fun v x => fireMark x.item.pos v) u =
      match l.getLast? with
      | none => u
      | some x => { u with on := true, reference := some x.item.pos } := by
  induction l generalizing u with
  | nil => rfl
  | cons x rest ih =>
    have hfire : fireMark x.item.pos u = { u with on := true, reference := some x.item.pos } := by simp only [fireMark, h]
    rw [List.foldl_cons, hfire, ih (u := { u with on := true, reference := some x.item.pos }) h]
    cases rest with
    | nil => rfl
    | cons y more => rw [List.getLast?_cons_cons, List.getLast?_eq_some_getLast (List.cons_ne_nil y more)]

/-- The last item that passes a filter, with those behind it that do not. -/
theorem exists_last_of_filter {α : Type} {p : α → Bool} {l : List α} {x : α} (h : (l.filter p).getLast? = some x) :
    ∃ before after, l = before ++ x :: after ∧ p x = true ∧ ∀ y ∈ after, ¬p y = true := by
  obtain ⟨ys, hys⟩ := List.getLast?_eq_some_iff.mp h
  obtain ⟨l1, l2, rfl, -, h2⟩ := List.filter_eq_append_iff.mp hys
  obtain ⟨l3, l4, rfl, -, hx, hnone⟩ := List.filter_eq_cons_iff.mp h2
  exact ⟨l1 ++ l3, l4, (List.append_assoc l1 l3 (x :: l4)).symm, hx, fun y hy hp => List.filter_eq_nil_iff.mp hnone y hy hp⟩

/-- When the LEVEL output ends at a test without a firing (R161). -/
theorem levelEnds_iff (u : MarkerUnit) :
    levelEnds u = true ↔ u.mode = .level ∧ u.on = true ∧ ∃ r, u.reference = some r ∧ (u.length : Int) ≤ |u.latest - r| := by
  have habs (r : Int) : u.length ≤ (u.latest - r).natAbs ↔ (u.length : Int) ≤ |u.latest - r| := by
    rw [Int.abs_eq_natAbs, Int.ofNat_le]
  cases hr : u.reference <;> simp [levelEnds, hr, habs, and_assoc]

/-- A test without a firing (R161). -/
theorem testMarks_of_none {u : MarkerUnit} (h : ∀ x ∈ u.marks, ¬firesAt u x.item) :
    testMarks u = { (if levelEnds u then { u with on := false, reference := none } else u) with
      marks := u.marks.map fun x => { x with item := { x.item with fresh := false } }
      least := u.latest, greatest := u.latest } := by
  have hfiring : (u.marks.filter fun x => reaches u.least u.greatest u.latest x.item) = [] :=
    List.filter_eq_nil_iff.mpr h
  have hleft : (u.marks.filter fun x => !reaches u.least u.greatest u.latest x.item) = u.marks :=
    List.filter_eq_self.mpr fun x hx => (Bool.not_eq_true' _).mpr (Bool.eq_false_iff.mpr (h x hx))
  simp only [testMarks, hfiring, hleft, List.isEmpty_nil, Bool.true_and, List.foldl_nil]

/-- A test with a firing (R160, R161). -/
theorem testMarks_of_some {u : MarkerUnit} (h : ∃ x ∈ u.marks, firesAt u x.item) :
    testMarks u = { ((u.marks.filter fun x => firesAt u x.item).foldl (fun v x => fireMark x.item.pos v) u) with
      marks := (u.marks.filter fun x => !firesAt u x.item).map fun x => { x with item := { x.item with fresh := false } }
      least := u.latest, greatest := u.latest } := by
  obtain ⟨x, hx, hfires⟩ := h
  have hfiring : (u.marks.filter fun x => reaches u.least u.greatest u.latest x.item).isEmpty = false := by
    rw [List.isEmpty_eq_false_iff_exists_mem]
    exact ⟨x, List.mem_filter.mpr ⟨hx, hfires⟩⟩
  have hlatest (l : List (Placed Mark)) : (l.foldl (fun v x => fireMark x.item.pos v) u).latest = u.latest :=
    foldl_keeps (P := fun v : MarkerUnit => v.latest = u.latest) (fun v x hv => by
      unfold fireMark
      split <;> exact hv) l u rfl
  simp only [testMarks, hfiring, Bool.false_and, Bool.false_eq_true, if_false, hlatest]
  rfl

/-- Settles O11, by cases on whether any mark fires. -/
theorem markerTestFires : Obligations.MarkerTestFires := by
  intro s hgrant hsound hcalm
  let s1 : State := { s with store := { s.store with markerReq := false } }
  have hexec : exec .markerTest s = .next (release { s1 with mark := testMarks s.mark }) := by
    have hread : readMarks s1 = s1 := readMarks_sound hsound
    have hgrants : grants s .marker = true := by simp [grants, hgrant]
    simp only [exec, execMarkerTest, hgrants, if_true]
    exact congrArg (fun u => Host.Outcome.next (release (u.setMark testMarks))) hread
  refine ⟨testMarks s.mark, hexec, ?_⟩
  by_cases hfires : ∃ x ∈ s.mark.marks, firesAt s.mark x.item
  · have hsome : (s.mark.marks.filter fun x => firesAt s.mark x.item) ≠ [] := by
      obtain ⟨x, hx, hf⟩ := hfires
      exact List.ne_nil_of_mem (List.mem_filter.mpr ⟨hx, hf⟩)
    rw [testMarks_of_some hfires]
    cases hmode : s.mark.mode with
    | pulse =>
      rw [foldl_fireMark_pulse _ hmode, if_neg hsome]
      exact ⟨rfl, rfl, rfl, rfl, rfl, hmode, rfl, rfl, rfl, fun _ => ⟨rfl, fun _ => ⟨rfl, rfl⟩, nofun⟩,
        fun hnone => absurd hfires (by simpa using hnone)⟩
    | level =>
      obtain ⟨x, hx⟩ := Option.isSome_iff_exists.mp (List.getLast?_isSome.mpr hsome)
      rw [foldl_fireMark_level _ hmode, hx]
      exact ⟨rfl, rfl, rfl, rfl, rfl, hmode, rfl, rfl, rfl,
        fun _ => ⟨rfl, nofun, fun _ => ⟨rfl, by
          obtain ⟨before, after, hsplit, hlast, hbehind⟩ := exists_last_of_filter hx
          exact ⟨before, after, x, hsplit, hlast, hbehind, rfl⟩⟩⟩,
        fun hnone => absurd hfires (by simpa using hnone)⟩
  · have hnone : ∀ x ∈ s.mark.marks, ¬firesAt s.mark x.item := fun x hx hf => hfires ⟨x, hx, hf⟩
    have hleft : (s.mark.marks.filter fun x => !firesAt s.mark x.item) = s.mark.marks :=
      List.filter_eq_self.mpr fun x hx => by simpa using hnone x hx
    rw [testMarks_of_none hnone, hleft]
    split
    · rename_i hends
      rw [levelEnds_iff] at hends
      exact ⟨rfl, rfl, rfl, rfl, rfl, rfl, rfl, rfl, rfl, fun h => absurd h hfires,
        fun _ => ⟨rfl, fun _ => ⟨rfl, rfl⟩, fun h => absurd hends h⟩⟩
    · rename_i hstays
      rw [levelEnds_iff] at hstays
      exact ⟨rfl, rfl, rfl, rfl, rfl, rfl, rfl, rfl, rfl, fun h => absurd h hfires,
        fun _ => ⟨rfl, fun h => absurd h hstays, fun _ => ⟨rfl, rfl⟩⟩⟩

end Sys2Proof.Machine
end

section
/-! PROOFS. Formations, turns and fires (02), the rail line (03), the boost decision (R65), and upsets (R166). -/

namespace Sys2Proof.Machine

/-! Upsets (R166). -/

/-- A word after another is replaced. -/
theorem word_setWord {s : State} {a : Nat} (hs : MemoryForm s) (ha : a < storeSize) (w : StoreWord) (b : Nat) :
    (s.setWord a w).word b = if b = a then w else s.word b := by
  rw [State.setWord, if_pos ha]
  by_cases hb : b = a
  · subst hb
    rw [if_pos rfl]
    exact Memory.read_write_same _ w hs
  · rw [if_neg hb]
    exact Memory.read_write_other _ w hs hb

/-- A word replaced changes the memory alone. -/
theorem setWord_frame (a : Nat) (w : StoreWord) (s : State) :
    s.setWord a w = { s with store := { s.store with cells := (s.setWord a w).store.cells } } := by
  unfold State.setWord
  split
  · rfl
  · rfl

/-- Settles O9: the word written is the one read, and no other (the laws of the memory). -/
theorem upsetChangesOneWord : Obligations.UpsetChangesOneWord := by
  intro a mask s hs
  refine ⟨fun ha => ?_, fun ha => ?_⟩
  · let w : StoreWord := { s.word a with changed := (s.word a).changed ^^^ mask }
    have hword := word_setWord hs ha w
    refine ⟨(s.setWord a w).store.cells, ?_, fun t ht => ?_⟩
    · rw [← setWord_frame]
      exact if_pos ha
    · have hsame (b : Nat) : t.word b = (s.setWord a w).word b := by rw [State.word, ht, State.word]
      refine ⟨?_, ?_, fun b hb => ?_⟩
      · rw [hsame, hword, if_pos rfl]
      · rw [hsame, hword, if_pos rfl]
      · rw [hsame, hword, if_neg hb]
  · exact if_neg (Nat.not_lt.mpr ha)

/-! Formations (R17, R19, R21). -/

/-- The due slots of a formation on sound records, in the order of the slots listed. -/
theorem formDue_sound (o : Origin) (index : Option Nat) (ns : List Slot) {s : State} (h : ∀ n, SoundSlot s n [0]) :
    formDue o index ns s = (s, ns.filter fun n => isDue o index (slotAt s n)) := by
  induction ns with
  | nil => rfl
  | cons n rest ih =>
    have h0 : 0 ∈ [0] := List.mem_singleton.mpr rfl
    have hdue : isDue o index (slotRead n [0] s) = isDue o index (slotAt s n) := by
      simp only [isDue, slotRead_enable h0, slotRead_divisor h0]
    simp only [formDue, readSlot_sound (h n), hdue, ih, List.filter_cons]

/-- Which slots are due (R19, R21). -/
theorem isDue_iff (o : Origin) (index : Option Nat) (r : SlotRecord) :
    isDue o index r = true ↔ r.enable = true ∧ (o = .timer ∨ (o = .step ∧ index.getD 0 % r.divisor = 0)) := by
  cases o <;> simp [isDue]

/-- Every slot once, in ascending order. -/
theorem allSlots_pairwise : allSlots.Pairwise (· < ·) := by decide

/-- Every slot is listed. -/
theorem mem_allSlots : ∀ n : Slot, n ∈ allSlots := by decide

/-- Settles O13: the due slots are those of the list of all slots that pass the test, so in its order. -/
theorem formationGathersDueSlots : Obligations.FormationGathersDueSlots := by
  intro s s1 o index pos isLive htake hsound
  obtain ⟨-, left, -, hs1⟩ := takeShot_spec htake
  have hsound1 : ∀ n, SoundSlot s1 n [0] := by subst hs1; exact hsound
  have hrecord : slotAt s1 = slotAt s := by subst hs1; rfl
  have hrun1 : s1.link.run = s.link.run := by subst hs1; rfl
  refine ⟨fun hlive hrun => ?_, fun hstale => ?_⟩
  · refine ⟨allSlots.filter fun n => isDue o index (slotAt s n), ?_, allSlots_pairwise.filter _, fun n => ?_⟩
    · have hform : (isLive && s1.link.run == .run) = true := by rw [hlive, hrun1, hrun]; decide
      simp only [exec, execRoundFormation, htake, hform, if_true, formRound, formDue_sound o index _ hsound1, hrecord]
    · rw [List.mem_filter, isDue_iff]
      exact and_iff_right (mem_allSlots n)
  · have hform : (isLive && s1.link.run == .run) = false := by
      rw [hrun1, Bool.and_eq_false_iff]
      exact hstale.imp id beq_false_of_ne
    simp only [exec, execRoundFormation, htake, hform, Bool.false_eq_true, if_false]

/-! Turns and fires (R17, R23, R24). -/

/-- The fields of a turn, read of a sound record. -/
theorem turnOf_slotRead (n : Slot) (s : State) : turnOf (slotRead n [0, 1] s) = turnOf (slotAt s n) := by
  have h0 : 0 ∈ [0, 1] := by decide
  have h1 : 1 ∈ [0, 1] := by decide
  simp only [turnOf, slotRead_txPort h0, slotRead_rxPort h0, slotRead_quiet h1, slotRead_autoZero h0]

/-- The fire of the slot at its turn, with the noise floor read of a sound word (R24, R54). -/
theorem fire_sound {s : State} {r : Round} {n : Slot} {rest : List Slot} {turn : Turn} (unclaimed : Bool)
    (hround : s.sched.round = some r) (htodo : r.todo = n :: rest) (hturn : s.sched.turn = some turn)
    (hcalm : Calm s) (hsound : Sound s [2]) :
    fire unclaimed s = { s with
      sched := { s.sched with
        round := some { r with todo := rest }, turn := none, walk := .shot
        shot := some { slot := n, firePos := s.odo.pc, settle := !s.sched.settled[n], unclaimed := unclaimed, void := false,
                       turn := turn, decision := none } }
      gain := { s.gain with listening := some { port := turn.rxPort, noiseFloor := (stationAt s).noiseFloor } }
      store := { s.store with shotReqs := s.store.shotReqs ++ [[.zone n s.odo.pc]] } } := by
  simp only [fire, hround, hturn, htodo, readStationOn_sound hcalm hsound,
    stationRead_noiseFloor (List.mem_singleton.mpr rfl)]
  rfl

/-- A live turn on sound words reads its record and goes on by it (R17, R23). -/
theorem execTurnReads_live {s s1 : State} {n : Slot} (htake : takeShot asTurn s = some ((n, true), s1))
    (hsound : SoundSlot s1 n [0, 1]) :
    exec .turnReads s = .next (release (takeTurn n (some (slotRead n [0, 1] s1)) s1)) := by
  simp only [exec, execTurnReads, htake, readSlot_sound hsound, if_true]

/-- Settles O16: neither mark nor fault nor claim keeps the slot from its fire. -/
theorem localTurnFires : Obligations.LocalTurnFires := by
  intro s s1 n r rest htake hround htodo hslot hsound hstore hport hlocal hcalm turn
  obtain ⟨-, left, -, hs1⟩ := takeShot_spec htake
  have h0 : 0 ∈ [0, 1] := by decide
  have hslot1 : SoundSlot s1 n [0, 1] := by subst hs1; exact hslot
  have hrecord : slotAt s1 n = slotAt s n := by subst hs1; rfl
  have htx : s1.coup.portFault[(slotAt s n).txPort] = false := by subst hs1; exact hport
  have hmark : s1.sched.storeDamaged[n] = false := by subst hs1; exact hstore
  rw [execTurnReads_live htake hslot1]
  simp only [takeTurn, slotRead_txPort h0, slotRead_claimsRail h0, turnOf_slotRead, hrecord, hmark, htx, hlocal,
    Bool.false_eq_true, if_false]
  rw [fire_sound (r := r) (n := n) (rest := rest) (turn := turn) false (by subst hs1; exact hround) htodo rfl
    (by subst hs1; exact hcalm) (by subst hs1; exact hsound)]
  subst hs1
  rfl

/-! Grants of the rail (R44, R48). -/

/-- Settles O21: the claim slot is the slot at its turn, whose fire latches what the turn's reads gave. -/
theorem grantFiresClaimSlot : Obligations.GrantFiresClaimSlot := by
  refine ⟨fun s r n rest turn hround htodo hturn _ hsound hcalm => ⟨fun hclaim hdrive hothers => ?_, fun hclaim htimer => ?_⟩,
    fun s htimer hclaim => ?_⟩
  · have hfree : s.rail.claim = .delay ∧ (!lineSeen s.rail) = true := by
      refine ⟨hclaim, ?_⟩
      rw [(lineSeen_eq_false_iff s.rail).mpr ⟨hdrive, hothers⟩]
      rfl
    simp only [exec, execArbitrationDelayExpiry, if_pos hfree]
    rw [fire_sound (s := { s with rail := grantRail s.rail }) (r := r) (n := n) (rest := rest) (turn := turn) false
      hround htodo hturn hcalm hsound, finish_calm (by exact hcalm)]
    rfl
  · simp only [exec, execStuckTimerExpiry, if_pos htimer, if_pos hclaim]
    rw [fire_sound (s := { s with rail := grantRail { s.rail with stuck := true, stuckTimer := none } }) (r := r) (n := n)
      (rest := rest) (turn := turn) true hround htodo hturn hcalm hsound, finish_calm (by exact hcalm)]
    rfl
  · simp only [exec, execStuckTimerExpiry, if_pos htimer, if_neg hclaim]

/-- Settles O17, by what a claim taken in IDLE becomes. -/
theorem claimingTurnAsksForRail : Obligations.ClaimingTurnAsksForRail := by
  intro s s1 n r rest htake hround htodo hslot hstore hport hclaims hcalm hidle turn length asserted claims
  obtain ⟨-, left, -, hs1⟩ := takeShot_spec htake
  have h0 : 0 ∈ [0, 1] := by decide
  have hslot1 : SoundSlot s1 n [0, 1] := by subst hs1; exact hslot
  have hrecord : slotAt s1 n = slotAt s n := by subst hs1; rfl
  have htx : s1.coup.portFault[(slotAt s n).txPort] = false := by subst hs1; exact hport
  have hmark : s1.sched.storeDamaged[n] = false := by subst hs1; exact hstore
  have hexec : exec .turnReads s =
      .next (release (claimTurn n (s1.setSched fun u => { u with turn := some turn }))) := by
    rw [execTurnReads_live htake hslot1]
    simp only [takeTurn, slotRead_txPort h0, slotRead_claimsRail h0, turnOf_slotRead, hrecord, hmark, htx, hclaims,
      Bool.false_eq_true, if_false, if_true]
    rfl
  have hrail : s1.rail = s.rail := by subst hs1; rfl
  have hstrap : s1.strap = s.strap := by subst hs1; rfl
  rw [hexec]
  refine ⟨fun hstuck hfree => ?_, fun hstuck hline => ?_, fun hstuck hfloor => ?_⟩
  · have hseen : lineSeen s.rail = false := by
      rw [lineSeen_eq_false_iff]
      exact ⟨Bool.eq_false_iff.mpr fun h => hfree (.inl h), Bool.eq_false_iff.mpr fun h => hfree (.inr h)⟩
    have hclaim := takeClaim_of_free s.strap.val n hidle hstuck hseen
    simp only [claimTurn, State.setSched, hrail, hstrap, hclaim, Bool.false_eq_true, if_false]
    subst hs1
    rfl
  · have hseen : lineSeen s.rail = true := by
      simpa [lineSeen] using hline
    simp only [claimTurn, State.setSched, hrail, hstrap, takeClaim, hidle, hstuck, hseen, if_true, Bool.false_eq_true, if_false]
    subst hs1
    rfl
  · have hclaim : takeClaim s.strap.val n s.rail = (grantRail { s.rail with slot := some n }, true) := by
      simp only [takeClaim, hidle, hstuck, if_true]
    simp only [claimTurn, State.setSched, hrail, hstrap, hclaim, if_true]
    rw [fire_sound (r := r) (n := n) (rest := rest) (turn := turn) true (by subst hs1; exact hround) htodo rfl
      (by subst hs1; exact hcalm) (by subst hs1; exact hfloor)]
    subst hs1
    simp only [firedClaim, hstuck]
    rfl

/-! Line events (R39 to R49). -/

/-- Settles O20, by what an assertion and a release taken with the own drive released make of the rail unit. -/
theorem railLineEvents : Obligations.RailLineEvents := by
  intro s hdrive timer length
  refine ⟨fun hothers hclaim => ?_, fun hothers hclaim => ?_, fun hothers hclaim => ?_, fun hothers hclaim => ?_⟩
  · simp only [exec, execRailLineAssertion, hothers, hdrive, takeAssertion, hclaim, startStuck, Bool.false_eq_true, if_false,
      if_true]
    rfl
  · simp only [exec, execRailLineAssertion, hothers, hdrive, takeAssertion, if_neg hclaim, startStuck, Bool.false_eq_true,
      if_false]
    rfl
  · simp only [exec, execRailLineRelease, hothers, hdrive, takeRelease, hclaim, Bool.false_eq_true, if_false, if_true]
    rfl
  · simp only [exec, execRailLineRelease, hothers, hdrive, takeRelease, if_neg hclaim, Bool.false_eq_true, if_false, if_true]

/-! The boost decision (R65, R145). -/

/-- The reads of sound zones change nothing. -/
theorem readZones_sound {s : State} (h : SoundItems s zoneBase 4 s.conf.zones) : readZones s = s := readItems_sound h

/-- The in-zone test, on the distance to each centre (R145). -/
theorem inZone_iff (aim : Int) (l : List (Placed Zone)) :
    inZone aim l = true ↔ ∃ z ∈ l, |aim - z.item.centre| ≤ (z.item.half : Int) := by
  have habs (z : Placed Zone) : (aim - z.item.centre).natAbs ≤ z.item.half ↔ |aim - z.item.centre| ≤ (z.item.half : Int) := by
    rw [Int.abs_eq_natAbs, Int.ofNat_le]
  simp only [inZone, List.any_eq_true, decide_eq_true_iff, habs]

/-- The boost decision on sound words (R65, R145). -/
theorem decide65_sound {s : State} {n : Slot} (p : Int) (hslot : SoundSlot s n [0, 4]) (hstation : Sound s [5])
    (hzones : SoundItems s zoneBase 4 s.conf.zones) (hcalm : Calm s) :
    decide65 n p s = (s,
      if (slotAt s n).watchResponse = true ∧ inZone (p + s.odo.ps + (slotAt s n).pa) s.conf.zones = true then
        ⟨(stationAt s).watchBoost, true⟩ else ⟨0, false⟩) := by
  have hword (k : Nat) (hk : k ∈ [0, 4]) : SoundSlot s n [k] := by
    intro a ha
    obtain rfl := List.mem_singleton.mp ha
    exact hslot _ (List.mem_map.mpr ⟨k, hk, rfl⟩)
  have h0 := hword 0 (by decide)
  have h4 := hword 4 (by decide)
  simp only [decide65, readSlot_sound h0, readSlot_sound h4, slotRead_watchResponse (List.mem_singleton.mpr rfl),
    slotRead_pa (List.mem_singleton.mpr rfl), readZones_sound hzones, readStationOn_sound hcalm hstation,
    stationRead_watchBoost (List.mem_singleton.mpr rfl), stationRef]
  cases (slotAt s n).watchResponse <;> cases inZone (p + s.odo.ps + (slotAt s n).pa) s.conf.zones <;> rfl

/-- The decision of the shot in flight, no record being in processing or waiting. -/
theorem setDecision_shot {s : State} {sh : Shot} (b : Boost) (hshot : s.sched.shot = some sh) (hnone : sh.decision = none)
    (hprocessing : s.gain.processing = none) (hqueue : s.gain.queue = []) :
    setDecision sh.slot sh.firePos b s = s.setSched fun u => { u with shot := some { sh with decision := some b } } := by
  simp [setDecision, hprocessing, hqueue, State.setSched, hshot, hnone]

/-- Settles O18: the words being sound, the answer is that of the fields and zones as last written. -/
theorem inZoneDecidesBoost : Obligations.InZoneDecidesBoost := by
  intro s s1 n p sh htake hshot hslot hpos hnone hprocessing hqueue hsound hstation hzones hcalm aim yes
  obtain ⟨-, left, -, hs1⟩ := takeShot_spec htake
  subst hslot hpos
  have hshot1 : s1.sched.shot = some sh := by subst hs1; exact hshot
  have hprocessing1 : s1.gain.processing = none := by subst hs1; exact hprocessing
  have hqueue1 : s1.gain.queue = [] := by subst hs1; exact hqueue
  have hdecide := decide65_sound (s := s1) (n := sh.slot) sh.firePos (by subst hs1; exact hsound)
    (by subst hs1; exact hstation) (by subst hs1; exact hzones) (by subst hs1; exact hcalm)
  have hyes : ((slotAt s1 sh.slot).watchResponse = true ∧
      inZone (sh.firePos + s1.odo.ps + (slotAt s1 sh.slot).pa) s1.conf.zones = true) ↔ yes := by
    subst hs1
    exact and_congr_right fun _ => inZone_iff _ _
  have hboost : (stationAt s1).watchBoost = (stationAt s).watchBoost := by subst hs1; rfl
  have hsched : s1.sched = s.sched := by subst hs1; rfl
  rw [hboost] at hdecide
  refine ⟨if (slotAt s1 sh.slot).watchResponse = true ∧
      inZone (sh.firePos + s1.odo.ps + (slotAt s1 sh.slot).pa) s1.conf.zones = true then
      ⟨(stationAt s).watchBoost, true⟩ else ⟨0, false⟩, ?_, fun hy => if_pos (hyes.mpr hy), fun hn => if_neg fun h => hn (hyes.mp h)⟩
  simp only [exec, execInZoneQuestion, htake, hdecide, setDecision_shot _ hshot1 hnone hprocessing1 hqueue1, State.setSched,
    hsched]

end Sys2Proof.Machine
end

section
/-! PROOFS. The car link (11): receptions, malformed frames, line activity and waits. -/

namespace Sys2Proof.Machine

/-! Receptions (R177, R178). -/

/-- The first byte of a payload. -/
theorem byteAt_getD (l : List Byte) (k : Nat) : byteAt l k = (l.getD k 0).toNat := rfl

/-- The recorder's frame passes the tests (R178). -/
theorem receive_recorder {kind : Nat} {f : Frame} {s : State} (use : State → State) (h : FromRecorder s kind f)
    (hk : kind ≤ 9) : receive kind f use s = use s := by
  obtain ⟨⟨hidle, hlength, hdest⟩, hsource⟩ := h
  have haddr : addressed s kind f = true := by simpa [addressed] using hdest
  have hother : ¬f.source.toNat = s.strap.val := by
    have := s.strap.isLt
    simp only [recorderNode] at hsource
    omega
  have hpair : pairing kind f = true := by simp [pairing, hk, hsource]
  simp [receive, hidle, hlength, haddr, hother, hpair]

/-- A peer's frame of a kind that stations join passes the tests (R178). -/
theorem receive_peer {kind : Nat} {f : Frame} {s : State} (use : State → State) (h : FromPeer s kind f)
    (hk : kind = 10 ∨ kind = 11) : receive kind f use s = use s := by
  obtain ⟨⟨hidle, hlength, hdest⟩, hnode, hother⟩ := h
  have haddr : addressed s kind f = true := by simpa [addressed] using hdest
  have hpair : pairing kind f = true := by
    obtain rfl | rfl := hk
    · simp [pairing, hnode]
    · simp [pairing, hnode]
  simp [receive, hidle, hlength, haddr, hother, hpair]

/-- A reception whose frame asks for nothing leaves the state, but for the tests that a peer's frame passes. -/
theorem receive_ignored {kind : Nat} {f : Frame} {s : State} (h : FromPeer s kind f) :
    receive kind f (fun s => s) s = s := by
  obtain ⟨⟨hidle, hlength, hdest⟩, -, hother⟩ := h
  have haddr : addressed s kind f = true := by simpa [addressed] using hdest
  simp [receive, hidle, hlength, haddr, hother]

/-- A frame with this station's own number sets the clash flag, whatever it carries (R178). -/
theorem receive_clash {kind : Nat} {f : Frame} {s : State} (use : State → State) (h : Arrives s kind f)
    (hown : f.source.toNat = s.strap.val) :
    receive kind f use s = { s with link := { s.link with clash := true } } := by
  obtain ⟨hidle, hlength, hdest⟩ := h
  have haddr : addressed s kind f = true := by simpa [addressed] using hdest
  simp [receive, hidle, hlength, haddr, hown, State.setLink]

/-- The low bits of a field. -/
theorem bits_zero (x w : Nat) : bits x 0 w = x % 2 ^ w := by
  simp [bits]

/-- Settles O42: what a setup frame of the recorder does once it has passed the tests of a reception. -/
theorem setupFramesWaitOrAreRefused : Obligations.SetupFramesWaitOrAreRefused := by
  intro s f refused waits b0 b1
  have hb0 : bits (byteAt f.payload 0) 0 4 = b0 % 16 := bits_zero _ 4
  refine ⟨fun h => ?_, fun h hb => ?_, fun h hb => ?_, fun h ha hp => ?_, fun h hb => ?_, fun h hrun => ?_,
    fun h hrun => ?_, fun r s1 htake hrun hcalm => ?_⟩
  · simp only [exec, execSetupStation, receive_recorder _ h (by decide : 1 ≤ 9)]
    rfl
  · simp only [exec, execSetupSlot, receive_recorder _ h (by decide : 2 ≤ 9), hb0, if_neg (Nat.not_lt.mpr hb)]
    rfl
  · simp only [exec, execSetupSlot, receive_recorder _ h (by decide : 2 ≤ 9), hb0, if_pos hb]
    rfl
  · have hnames : ¬(7 < byteAt f.payload 0 ∨ 3 < byteAt f.payload 1) := by
      rw [not_or]
      exact ⟨Nat.not_lt.mpr ha, Nat.not_lt.mpr hp⟩
    simp only [exec, execSetupCurve, receive_recorder _ h (by decide : 3 ≤ 9), if_neg hnames]
    rfl
  · have hnames : 7 < byteAt f.payload 0 ∨ 3 < byteAt f.payload 1 := hb
    simp only [exec, execSetupCurve, receive_recorder _ h (by decide : 3 ≤ 9), if_pos hnames]
    rfl
  · simp only [exec, execCloseSetup, receive_recorder _ h (by decide : 4 ≤ 9), if_pos hrun]
    rfl
  · simp only [exec, execCloseSetup, receive_recorder _ h (by decide : 4 ≤ 9), if_neg hrun]
  · obtain ⟨-, x, rest, -, -, hs1⟩ := takeRx_spec htake
    have hgrant : s1.store.grantRun = .run ∨ s1.store.grantRun = .hold := by subst hs1; exact hrun
    have hrefused : s1.count addSetupRefused = { refused with store := s1.store } := by subst hs1; rfl
    simp only [exec, execSetupFrameStore, runSetupStore, htake, storeFrame, if_pos hgrant, hrefused]

/-- Settles O48: what peers' frames and a SHOT REQUEST do once they have passed the tests of a reception. -/
theorem peerFramesAndShotRequests : Obligations.PeerFramesAndShotRequests := by
  intro s f waits src
  refine ⟨fun h => ?_, fun h => ?_, fun h => ?_, fun h => ?_, fun c kind hkind h hown => ?_,
    fun h => ⟨fun n hn => ?_, fun hn => ?_⟩⟩
  · simp only [exec, execIndication, receive_peer _ h (.inl rfl)]
    rfl
  · simp only [exec, execWatch, receive_peer _ h (.inr rfl)]
    rfl
  · simp only [exec, execPeerStatusFrame, receive_ignored h]
  · simp only [exec, execPeerShotFrame, receive_ignored h]
  · simp only [List.mem_cons, Prod.mk.injEq, List.not_mem_nil, or_false] at hkind
    obtain ⟨rfl, rfl⟩ | ⟨rfl, rfl⟩ | ⟨rfl, rfl⟩ | ⟨rfl, rfl⟩ := hkind
    · simp only [exec, execIndication, receive_clash _ h hown]
    · simp only [exec, execWatch, receive_clash _ h hown]
    · simp only [exec, execPeerStatusFrame, receive_clash _ h hown]
    · simp only [exec, execPeerShotFrame, receive_clash _ h hown]
  · have hbyte : byteAt f.payload 0 = n.val := hn
    have hslot : Fin.ofNat 12 n.val = n := Fin.ext (Nat.mod_eq_of_lt n.isLt)
    simp only [exec, execShotRequest, receive_recorder _ h (by decide : 9 ≤ 9), hbyte, if_pos (Nat.le_of_lt_succ n.isLt), hslot]
    rfl
  · have hbyte : ¬byteAt f.payload 0 ≤ 11 := Nat.not_le.mpr hn
    simp only [exec, execShotRequest, receive_recorder _ h (by decide : 9 ≤ 9), if_neg hbyte]

/-! Access to the line (R179). -/

/-- What makes a frame ready (R179, R180). -/
theorem frameReady_iff (s : State) :
    frameReady s = true ↔
      (s.store.txReqs.any (· == .removeHead false) = false ∧ s.link.fifo ≠ []) ∨
      (s.store.txReqs.any (· == .removeHead false) = true ∧ s.link.fifo.tail ≠ []) ∨ s.rep.records ≠ [] ∨
      s.link.statusDue = true ∨ s.link.partsLeft ≠ [] ∨ s.link.shotBuf ≠ none := by
  simp only [frameReady, fifoReady, removalWaits, Bool.or_eq_true, Bool.not_eq_true', List.isEmpty_eq_false_iff,
    Option.isSome_iff_ne_none, or_assoc]
  by_cases hwaits : s.store.txReqs.any (· == .removeHead false) = true
  · simp [hwaits]
  · simp [hwaits]

/-- In IDLE with a frame ready the idle wait starts (R179). -/
theorem linkWake_ready {s : State} (hidle : s.link.access = .idle) (hready : frameReady s = true) :
    linkWake s = toIdleWait s := if_pos ⟨hidle, hready⟩

/-- The waking leaves every other state. -/
theorem linkWake_rest {s : State} (h : ¬(s.link.access = .idle ∧ frameReady s = true)) : linkWake s = s := if_neg h

/-- Settles O47, by the access state at the event. -/
theorem lineEvents : Obligations.LineEvents := by
  intro s waiting ready
  have hready : frameReady s = true ↔ ready := frameReady_iff s
  refine ⟨fun bytes hidle hbad => ?_, fun bytes hsending => ?_, fun other h => ?_, fun other h => ?_, fun hwait => ?_,
    fun hidle hr => ?_, fun h => ?_⟩
  · simp only [exec, execMalformedFrame, hbad, and_true, if_pos hidle]
    rfl
  · simp only [exec, execMalformedFrame, hsending, ne_eq, not_true_eq_false, false_and, if_false]
  · have hhold : idleWait (s.link.holdOff && !other) = if s.link.holdOff = true ∧ other = false then 56 else 24 := by
      cases s.link.holdOff <;> cases other <;> rfl
    rw [← hhold]
    obtain hwait | hdelay | ⟨hidle, hr⟩ := h
    · have hwake : linkWake s = s := linkWake_rest (by simp [hwait])
      simp only [exec, execLineActivity, hwake, State.setLink, hwait]
      rfl
    · have hwake : linkWake s = s := linkWake_rest (by simp [hdelay])
      simp only [exec, execLineActivity, hwake, State.setLink, hdelay]
      rfl
    · simp only [exec, execLineActivity, linkWake_ready hidle (hready.mpr hr), State.setLink]
      rfl
  · have hwake : linkWake s = s := by
      refine linkWake_rest ?_
      rw [hready]
      obtain hidle | hsending := h
      · exact fun ⟨_, hr⟩ => hidle.2 hr
      · simp [hsending]
    have hstate : s.link.access = .idle ∨ s.link.access = .sending := h.imp (·.1) id
    simp only [exec, execLineActivity, hwake, State.setLink]
    obtain hidle | hsending := hstate
    · simp only [hidle]
    · simp only [hsending]
  · have hwake : linkWake s = s := linkWake_rest (by simp [hwait])
    simp only [exec, execIdleWaitExpiry, hwake, if_pos hwait]
    rfl
  · rw [linkWake_ready hidle (hready.mpr hr)]
    rfl
  · exact linkWake_rest (by rwa [hready])

end Sys2Proof.Machine
end

section
/-! PROOFS. Run control (11): leaving RUN, HALT and END, STATION RESET and the return to SETUP (R168), and the arms. -/

namespace Sys2Proof.Machine

/-! What the writing of words leaves. -/

/-- Words written change the memory alone. -/
theorem writeWords_frame (a : Nat) (ds : List Word) (s : State) :
    writeWords a ds s = { s with store := { s.store with cells := (writeWords a ds s).store.cells } } := by
  induction ds generalizing a s with
  | nil => rfl
  | cons d rest ih =>
    have hrest := ih (a + 1) (s.setWord a ⟨d, 0⟩)
    rw [setWord_frame a ⟨d, 0⟩ s] at hrest
    have hcons : writeWords a (d :: rest) s = writeWords (a + 1) rest (s.setWord a ⟨d, 0⟩) := rfl
    rw [hcons, setWord_frame a ⟨d, 0⟩ s]
    exact hrest

/-- An item written changes the memory alone. -/
theorem writeItem_frame (base size : Nat) (s : State) :
    writeItem base size s = { s with store := { s.store with cells := (writeItem base size s).store.cells } } :=
  writeWords_frame _ _ s

/-! The gaps of rounds that end (R26, R27, R30). -/

/-- The state with the open gaps of another, and what the Link Controller holds of them there. -/
def State.afterGaps (s t : State) : State :=
  { s with coup := { s.coup with gaps := t.coup.gaps }, link := s.link.withGaps t.link.counts.untoldGaps t.link.gapList t.link.untold }

theorem GapWork.eq_afterGaps {s t : State} (h : GapWork s t) : t = s.afterGaps t := by
  obtain ⟨gaps, c, l, u, rfl⟩ := h
  rfl

/-- The OVERRUN gap of a slot when the round in flight ends (R26). -/
def roundGap (s : State) (n : Slot) : Option Gap :=
  match s.sched.round with
  | some r => gapAfter ((s.coup.gaps[n]).get .overrun) (n ∈ r.todo) r.pos
  | none => (s.coup.gaps[n]).get .overrun

/-- A pending round's due slots skipped OVERRUN at its position (R27). -/
def pendingGap (p : Option Round) (n : Slot) (g : Option Gap) : Option Gap :=
  match p with
  | some p => gapAfter g (n ∈ p.due) p.pos
  | none => g

theorem overrunGap_eq (s : State) (n : Slot) : overrunGap s n = pendingGap s.sched.pendingRound n (roundGap s n) := by
  unfold overrunGap pendingGap roundGap
  cases s.sched.round <;> cases s.sched.pendingRound <;> rfl

/-- The skips of a round that ends without a fire. -/
def roundSkips (handOn : Bool) (s : State) : State :=
  match s.sched.round with
  | some r => if handOn then skipAll .overrun r.pos r.todo s else s
  | none => s

theorem roundSkips_gapWork (handOn : Bool) (s : State) : GapWork s (roundSkips handOn s) := by
  unfold roundSkips
  split
  · split
    · exact skipAll_gapWork _ _ _ s
    · exact .refl s
  · exact .refl s

theorem roundSkips_get (s : State) (n : Slot) (c : GapCause) :
    ((roundSkips true s).coup.gaps[n]).get c = if c = .overrun then roundGap s n else (s.coup.gaps[n]).get c := by
  unfold roundSkips roundGap
  cases s.sched.round with
  | none =>
    by_cases hc : c = .overrun
    · rw [if_pos hc, hc]
    · rw [if_neg hc]
  | some r => exact skipAll_get .overrun c r.pos r.todo n s

/-- The skips of a pending round that is dropped or replaced. -/
def pendingSkips (handOn : Bool) (s : State) : State :=
  match s.sched.pendingRound with
  | some p => if handOn then skipAll .overrun p.pos p.due s else s
  | none => s

theorem pendingSkips_gapWork (handOn : Bool) (s : State) : GapWork s (pendingSkips handOn s) := by
  unfold pendingSkips
  split
  · split
    · exact skipAll_gapWork _ _ _ s
    · exact .refl s
  · exact .refl s

theorem pendingSkips_get (s : State) (n : Slot) (c : GapCause) :
    ((pendingSkips true s).coup.gaps[n]).get c =
      if c = .overrun then pendingGap s.sched.pendingRound n ((s.coup.gaps[n]).get .overrun) else (s.coup.gaps[n]).get c := by
  unfold pendingSkips pendingGap
  cases s.sched.pendingRound with
  | none =>
    by_cases hc : c = .overrun
    · rw [if_pos hc, hc]
    · rw [if_neg hc]
  | some p => exact skipAll_get .overrun c p.pos p.due n s

/-- The end of the round in flight: its skips, the claim abandoned, its waiting turn given up (R26, R50). -/
theorem endRound_eq (handOn : Bool) (s : State) :
    endRound handOn s = { s.afterGaps (roundSkips handOn s) with
      sched := { s.sched with round := none, turn := none, walk := if s.sched.shot.isSome then .shot else .idle }
      rail := abandonClaim s.rail
      store := { s.store with shotReqs := turnsGivenUp s.store.shotReqs } } := by
  have hskips := (roundSkips_gapWork handOn s).eq_afterGaps
  have hend : endRound handOn s = staleTurns ({ roundSkips handOn s with rail := abandonClaim (roundSkips handOn s).rail }.setSched
      fun u => { u with round := none, turn := none, walk := if u.shot.isSome then .shot else .idle }) := rfl
  rw [hend, hskips]
  rfl

/-- A pending round dropped: its skips, and no pending round (R27). -/
theorem dropPending_eq (handOn : Bool) (s : State) :
    dropPending handOn s = { s.afterGaps (pendingSkips handOn s) with sched := { s.sched with pendingRound := none } } := by
  have hskips := (pendingSkips_gapWork handOn s).eq_afterGaps
  have hdrop : dropPending handOn s = (pendingSkips handOn s).setSched fun u => { u with pendingRound := none } := rfl
  rw [hdrop, hskips]
  rfl

/-- Both sorts of request that a leaving of RUN gives up (R17, R30). -/
theorem givenUp_eq (l : List (List ShotReq)) :
    (turnsGivenUp l).map (fun g => g.map fun r => match r with | .formation o i p _ => .formation o i p false | x => x) =
      givenUp l := by
  have hgroup (g : List ShotReq) : (g.map fun r => match r with | .turn n _ => ShotReq.turn n false | x => x).map
      (fun r => match r with | ShotReq.formation o i p _ => ShotReq.formation o i p false | x => x) =
      g.map fun r => match r with | .turn n _ => .turn n false | .formation o i p _ => .formation o i p false | x => x := by
    rw [List.map_map]
    refine List.map_congr_left fun r _ => ?_
    cases r <;> rfl
  unfold turnsGivenUp givenUp
  rw [List.map_map]
  exact List.map_congr_left fun g _ => hgroup g

/-- The skips of both rounds as the station leaves RUN. -/
def leaveSkips (handOn : Bool) (s : State) : State := pendingSkips handOn (endRound handOn s)

/-- What the leaving of RUN changes (R30). -/
theorem leaveRun_eq (handOn : Bool) (s : State) :
    leaveRun handOn s = { s.afterGaps (leaveSkips handOn s) with
      sched := { s.sched with
        round := none, pendingRound := none, turn := none, repTimer := none
        shot := s.sched.shot.map fun x => { x with void := true }
        walk := if s.sched.shot.isSome then .shot else .idle }
      rail := abandonClaim s.rail
      store := { s.store with shotReqs := givenUp s.store.shotReqs } } := by
  have hleave : leaveRun handOn s = staleFormations ((dropPending handOn (endRound handOn s)).setSched fun u =>
    { u with shot := u.shot.map fun x => { x with void := true }, repTimer := none,
             walk := if u.shot.isSome then .shot else .idle }) := rfl
  rw [hleave, dropPending_eq, ← leaveSkips, ← givenUp_eq]
  rw [endRound_eq]
  rfl

/-- The open gaps as the station leaves RUN, the skips handed on. -/
theorem leaveRun_get (s : State) (n : Slot) (c : GapCause) :
    ((leaveRun true s).coup.gaps[n]).get c = if c = .overrun then overrunGap s n else (s.coup.gaps[n]).get c := by
  have hgaps : (leaveRun true s).coup.gaps = (leaveSkips true s).coup.gaps := by rw [leaveRun_eq]; rfl
  have hround (k : GapCause) : ((endRound true s).coup.gaps[n]).get k = ((roundSkips true s).coup.gaps[n]).get k := by
    rw [endRound_eq]
    rfl
  have hpending : (endRound true s).sched.pendingRound = s.sched.pendingRound := by rw [endRound_eq]
  rw [hgaps, leaveSkips, pendingSkips_get, hpending, hround, hround, roundSkips_get, roundSkips_get, overrunGap_eq]
  by_cases hc : c = .overrun
  · simp only [if_pos hc, if_true]
  · simp only [if_neg hc]

/-- With no round, or with no skip handed on, the gaps stand as the station leaves RUN. -/
theorem leaveRun_afterGaps {handOn : Bool} {s : State}
    (h : handOn = false ∨ (s.sched.round = none ∧ s.sched.pendingRound = none)) : s.afterGaps (leaveSkips handOn s) = s := by
  have hround : roundSkips handOn s = s := by
    obtain rfl | ⟨hnone, -⟩ := h
    · unfold roundSkips
      split <;> rfl
    · rw [roundSkips, hnone]
  have hpending : pendingSkips handOn (endRound handOn s) = endRound handOn s := by
    obtain rfl | ⟨-, hnone⟩ := h
    · unfold pendingSkips
      split <;> rfl
    · have hp : (endRound handOn s).sched.pendingRound = none := by rw [endRound_eq]; exact hnone
      rw [pendingSkips, hp]
  rw [leaveSkips, hpending, endRound_eq, hround]
  rfl

/-- The Scheduler and the rail as the station leaves RUN. -/
theorem leaveRun_leftRun (handOn : Bool) (s : State) : leftRun s (leaveRun handOn s) := by
  rw [leaveRun_eq]
  exact ⟨rfl, rfl, rfl, rfl, rfl, rfl, rfl⟩

/-! Run-control frames (R184). -/

/-- A frame that the run state does not take changes nothing. -/
theorem takeFrame_not {taken : State → Bool} {body : State → State} {s : State} (h : taken s = false) :
    takeFrame taken body s = s := by
  simp [takeFrame, h]

/-- With no setup frame's store access in progress none is carried out. -/
theorem runSetupStore_none {s : State} (h : NoSetupStore s) : runSetupStore s = s := by
  simp only [runSetupStore, show takeRx asSetup s = none from h]

/-- A frame taken with nothing outstanding goes straight to what it does. -/
theorem takeFrame_taken {taken : State → Bool} {body : State → State} {s : State} (h : taken s = true) (hs : Settled s)
    (hn : NoSetupStore s) : takeFrame taken body s = body s := by
  simp only [takeFrame, h, runSetupStore_none hn, hs.settleCount_eq, if_true]

/-- Whether the run state takes a HALT (R184). -/
def takesHalt (s : State) : Bool := s.link.run == .run

/-- HALT on a frame that passes the tests of a reception. -/
theorem exec_halt {s : State} {f : Frame} (h : FromRecorder s 6 f) :
    exec (.halt f) s = .next (takeFrame takesHalt (fun s => linkWake (arbitrate (haltBody s))) s) :=
  congrArg Host.Outcome.next (receive_recorder _ h (by decide : 6 ≤ 9))

/-- Settles O50: HALT leaves RUN, raises the sweep behind the requests given up, and changes the run state. -/
theorem haltHoldsTheRun : Obligations.HaltHoldsTheRun := by
  intro s f hframe
  rw [exec_halt hframe]
  refine ⟨fun hrun => ?_, fun hrun hs hn => ?_⟩
  · rw [takeFrame_not (show takesHalt s = false from beq_false_of_ne hrun)]
  · rw [takeFrame_taken (show takesHalt s = true from beq_iff_eq.mpr hrun) hs hn]
    have hget := leaveRun_get s
    obtain ⟨g, r, k, q, a, w, hend⟩ := wakeArbitrate_frame (haltBody s)
    have hbody : haltBody s = setRun .hold (raise (.sweep .halt) (leaveRun true s)) := rfl
    rw [hbody, leaveRun_eq] at hend
    rw [leaveRun_eq] at hget
    refine ⟨_, rfl, ?_⟩
    rw [hbody, leaveRun_eq, hend]
    refine ⟨rfl, rfl, rfl, ?_, ⟨rfl, rfl, rfl, rfl, rfl, rfl, rfl⟩, rfl, rfl, rfl, rfl, rfl, rfl, rfl, rfl, rfl, rfl, rfl,
      rfl, rfl, rfl, rfl, rfl, rfl, rfl, fun hround hpending => ?_, fun n => ⟨?_, fun c hc => ?_⟩⟩
    · have htimer : timerAt s.link.run .hold s.link.statusTimer = some 1000 := by
        rw [hrun]
        rfl
      exact htimer
    · have hgaps : s.afterGaps (leaveSkips true s) = s := leaveRun_afterGaps (.inr ⟨hround, hpending⟩)
      have hcoup : (s.afterGaps (leaveSkips true s)).coup = s.coup := congrArg State.coup hgaps
      have hlink : (s.afterGaps (leaveSkips true s)).link = s.link := congrArg State.link hgaps
      have hcounts : (s.afterGaps (leaveSkips true s)).link.counts = s.link.counts := congrArg LinkUnit.counts hlink
      have hlist : (s.afterGaps (leaveSkips true s)).link.gapList = s.link.gapList := congrArg LinkUnit.gapList hlink
      exact ⟨hcoup, hcounts, hlist⟩
    · exact (hget n .overrun).trans (if_pos rfl)
    · exact (hget n c).trans (if_neg hc)

/-! The FIFO at a clearing (R180). -/

/-- A clearing changes the FIFO and the transmitter's requests alone. -/
theorem fifoClear_eq (s : State) :
    fifoClear s = { s with
      link := { s.link with fifo := fifoCleared s }
      store := { s.store with txReqs := (fifoClear s).store.txReqs } } := by
  unfold fifoClear fifoCleared
  split <;> simp_all [State.setLink]

/-- What END makes of the state in which the station has left RUN, or is in HOLD. -/
def ended (l : State) : State :=
  { l with
    sched := { l.sched with storeDamaged := Vector.replicate 12 false, request := none }
    conf := ConfUnit.powerOn
    mark := markClear l.mark
    link := { l.link with
      fifo := fifoCleared l, run := .ready, statusDue := true, stepCount := 0
      statusTimer := timerAt l.link.run .ready l.link.statusTimer }
    store := { l.store with
      txReqs := (fifoClear l).store.txReqs
      shotReqs := l.store.shotReqs ++ [[.sweep .runEnd]] } }

theorem endBody_eq (s : State) : endBody s = ended (if s.link.run = .run then leaveRun true s else s) := by
  unfold endBody
  dsimp only
  generalize (if s.link.run = .run then leaveRun true s else s) = l
  rw [fifoClear_eq l]
  rfl

/-- END on a frame that passes the tests of a reception. -/
theorem exec_end {s : State} {f : Frame} (h : FromRecorder s 7 f) :
    exec (.endRun f) s = .next (takeFrame takesEnd (fun s => linkWake (arbitrate (endBody s))) s) :=
  congrArg Host.Outcome.next (receive_recorder _ h (by decide : 7 ≤ 9))

/-- A table of one value. -/
theorem replicate_get {α : Type} {k : Nat} (x : α) (n : Fin k) : (Vector.replicate k x)[n] = x := Vector.getElem_replicate _

/-- Settles O51, for RUN by what the leaving of RUN leaves, for HOLD on the state as it stands. -/
theorem endClosesTheRun : Obligations.EndClosesTheRun := by
  intro s f hframe
  rw [exec_end hframe]
  refine ⟨fun hrun => ?_, fun hrun hs hn => ?_⟩
  · have htaken : takesEnd s = false := by
      obtain h | h := hrun <;> (rw [takesEnd, h]; rfl)
    rw [takeFrame_not htaken]
  · have htaken : takesEnd s = true := by
      obtain h | h := hrun <;> (rw [takesEnd, h]; rfl)
    rw [takeFrame_taken htaken hs hn, endBody_eq]
    by_cases h : s.link.run = .run
    · have hget := leaveRun_get s
      rw [if_pos h, leaveRun_eq]
      rw [leaveRun_eq] at hget
      obtain ⟨g, r, k, q, a, w, hend⟩ := wakeArbitrate_frame (ended { s.afterGaps (leaveSkips true s) with
        sched := { s.sched with
          round := none, pendingRound := none, turn := none, repTimer := none
          shot := s.sched.shot.map fun x => { x with void := true }
          walk := if s.sched.shot.isSome then .shot else .idle }
        rail := abandonClaim s.rail
        store := { s.store with shotReqs := givenUp s.store.shotReqs } })
      refine ⟨_, rfl, ?_⟩
      rw [hend]
      refine ⟨rfl, rfl, rfl, ?_, fun _ => ⟨rfl, rfl, rfl, rfl, rfl, rfl, rfl⟩, ?_, rfl, fun n => replicate_get false n, rfl,
        rfl, rfl, rfl, rfl, rfl, rfl, rfl, rfl, rfl, rfl, rfl, rfl, rfl, rfl, fun hstay => ?_,
        fun _ n => ⟨?_, fun c hc => ?_⟩⟩
      · have htimer : timerAt s.link.run .ready s.link.statusTimer =
            if s.link.run = .run then some 1000 else s.link.statusTimer := by
          rw [if_pos h, h]
          rfl
        exact htimer
      · rw [if_pos h]
        rfl
      · obtain hhold | hnone := hstay
        · exact absurd (h.symm.trans hhold) (by decide)
        · have hgaps : s.afterGaps (leaveSkips true s) = s := leaveRun_afterGaps (.inr hnone)
          have hcoup : (s.afterGaps (leaveSkips true s)).coup = s.coup := congrArg State.coup hgaps
          have hlink : (s.afterGaps (leaveSkips true s)).link = s.link := congrArg State.link hgaps
          have hcounts : (s.afterGaps (leaveSkips true s)).link.counts = s.link.counts := congrArg LinkUnit.counts hlink
          have hlist : (s.afterGaps (leaveSkips true s)).link.gapList = s.link.gapList := congrArg LinkUnit.gapList hlink
          exact ⟨hcoup, hcounts, hlist⟩
      · exact (hget n .overrun).trans (if_pos rfl)
      · exact (hget n c).trans (if_neg hc)
    · rw [if_neg h]
      obtain ⟨g, r, k, q, a, w, hend⟩ := wakeArbitrate_frame (ended s)
      refine ⟨_, rfl, ?_⟩
      rw [hend]
      refine ⟨rfl, rfl, rfl, ?_, fun hr => absurd hr h, ?_, rfl, fun n => replicate_get false n, rfl, rfl, rfl, rfl, rfl, rfl,
        rfl, rfl, rfl, rfl, rfl, rfl, rfl, rfl, rfl, fun _ => ⟨rfl, rfl, rfl⟩, fun hr => absurd hr h⟩
      · have htimer : timerAt s.link.run .ready s.link.statusTimer =
            if s.link.run = .run then some 1000 else s.link.statusTimer := by
          rw [timerAt, if_neg (by decide)]
          rfl
        exact htimer
      · rw [if_neg h]
        rfl

/-! STATION RESET and the return to SETUP (R168, R185). -/

/-- A table after its places have been replaced one by one. -/
theorem foldl_put_get {α : Type} (f : Slot → α) (l : List Slot) (v : Vector α 12) (m : Slot) :
    (l.foldl (fun w n => put w n (f n)) v)[m] = if m ∈ l then f m else v[m] := by
  induction l generalizing v with
  | nil => rfl
  | cons n rest ih =>
    rw [List.foldl_cons, ih, put_get]
    by_cases hrest : m ∈ rest
    · simp [hrest]
    · by_cases hm : m = n
      · simp [hm]
      · simp [hrest, hm]

/-- R99: every slot COUPLED with empty runs, its source kept. -/
theorem freshCoupling_get (v : Vector SlotCoupling 12) (n : Slot) :
    (freshCoupling v)[n] = SlotCoupling.fresh v[n].source :=
  (foldl_put_get (fun n => SlotCoupling.fresh v[n].source) allSlots v n).trans (if_pos (mem_allSlots n))

theorem coupClear_fresh (s t : State) (h : t.coup = coupClear s.coup) : couplingFresh s t := by
  refine ⟨fun n => ?_, fun p => ⟨?_, ?_⟩⟩
  · rw [h]
    exact freshCoupling_get s.coup.slots n
  · rw [h]
    exact replicate_get 0 p
  · rw [h]
    exact replicate_get false p

theorem odoStationReset_settled {s : State} (hs : Settled s) :
    odoStationReset s.odo = { s.odo with acc := 0, revRun := 0, index := 0 } := by
  obtain ⟨hstep, hrev⟩ := hs
  simp [odoStationReset, hstep, hrev]

/-- A STATION RESET hands no gap on (R30). -/
theorem leaveRun_false (s : State) :
    leaveRun false s = { s with
      sched := { s.sched with
        round := none, pendingRound := none, turn := none, repTimer := none
        shot := s.sched.shot.map fun x => { x with void := true }
        walk := if s.sched.shot.isSome then .shot else .idle }
      rail := abandonClaim s.rail
      store := { s.store with shotReqs := givenUp s.store.shotReqs } } := by
  rw [leaveRun_eq, leaveRun_afterGaps (.inl rfl)]

/-- Every block's state at a STATION RESET (R185). -/
theorem stationReset_eq (s : State) :
    stationReset s = { s with
      odo := odoStationReset s.odo
      sched := schedReset { s.sched with
        round := none, pendingRound := none, turn := none, repTimer := none
        shot := s.sched.shot.map fun x => { x with void := true }
        walk := if s.sched.shot.isSome then .shot else .idle }
      rail := { abandonClaim s.rail with deferral := 0 }
      gain := { s.gain with pieces := Vector.replicate 8 (Vector.replicate 4 false) }
      coup := coupClear s.coup
      mark := markOff s.mark
      store := { s.store with shotReqs := givenUp s.store.shotReqs, txReqs := (fifoClear s).store.txReqs }
      link := linkReset { s.link with fifo := fifoCleared s } } := by
  have hclear := fifoClear_eq (leaveRun false s)
  have htx : (fifoClear (leaveRun false s)).store.txReqs = (fifoClear s).store.txReqs := by
    rw [leaveRun_false]
    unfold fifoClear
    split <;> split <;> simp_all [State.setLink]
  rw [htx] at hclear
  unfold stationReset
  dsimp only
  rw [hclear, leaveRun_false]
  rfl

theorem stationReset_blocksReset {s : State} (hs : Settled s) : blocksReset s (stationReset s) := by
  have hcoup : (stationReset s).coup = coupClear s.coup := by rw [stationReset_eq]
  have hodo : (stationReset s).odo = { s.odo with acc := 0, revRun := 0, index := 0 } := by
    rw [← odoStationReset_settled hs, stationReset_eq]
  have hfresh := coupClear_fresh s _ hcoup
  have hgaps (n : Slot) (c : GapCause) : ((stationReset s).coup.gaps[n]).get c = none := by
    have hnone : (coupClear s.coup).gaps[n] = PerCause.all none := replicate_get _ n
    rw [hcoup, hnone, PerCause.all_get]
  have hpieces (a : Area) (p : Piece) : ((stationReset s).gain.pieces[a])[p] = false := by
    have hrow : (stationReset s).gain.pieces[a] = Vector.replicate 4 false := by
      rw [stationReset_eq]
      exact replicate_get _ a
    rw [hrow]
    exact replicate_get false p
  have huntold (n : Slot) (c : GapCause) : ((stationReset s).link.untold[n]).get c = false := by
    have hrow : (stationReset s).link.untold[n] = PerCause.all false := by
      rw [stationReset_eq]
      exact replicate_get _ n
    rw [hrow, PerCause.all_get]
  have hmarks (n : Slot) : (stationReset s).sched.settled[n] = false ∧ (stationReset s).sched.zeroFailed[n] = false ∧
      (stationReset s).sched.storeDamaged[n] = false ∧ ∀ c, ((stationReset s).coup.gaps[n]).get c = none := by
    refine ⟨?_, ?_, ?_, hgaps n⟩ <;>
    · rw [stationReset_eq]
      exact replicate_get false n
  have hleft : leftRun { s with rail := { s.rail with deferral := 0 } } (stationReset s) := by
    rw [stationReset_eq]
    refine ⟨rfl, rfl, rfl, rfl, rfl, rfl, ?_⟩
    simp only [abandonClaim]
    split <;> rfl
  refine ⟨?_, ?_, ?_, ?_, ?_, ?_, ?_, ?_, ?_, huntold, ?_, ?_, hleft, ?_, ?_, ?_, hmarks, hpieces, ?_, hfresh, hodo, ?_, ?_, ?_,
    ?_, ?_, ?_, ?_, ?_⟩
  all_goals rw [stationReset_eq]
  all_goals rfl

/-- The collections empty, and the output and the FIFO cleared with them (R134, R150, R156, R163, R180). -/
theorem clearCollections_eq (s : State) :
    clearCollections s = { s with
      trk := TrackerUnit.powerOn, conf := ConfUnit.powerOn, rep := ReportUnit.powerOn, mark := markClear s.mark
      link := { s.link with fifo := fifoCleared s }
      store := { s.store with txReqs := (clearCollections s).store.txReqs } } := fifoClear_eq _

theorem clearCollections_empty (s : State) : collectionsEmpty (clearCollections s) := by
  rw [clearCollections_eq]
  exact ⟨fun i => replicate_get none i, rfl, rfl, rfl, rfl, rfl, rfl, rfl⟩

/-- A FIFO cleared once more stands as it was cleared. -/
theorem fifoCleared_again {s t : State} (htx : t.link.tx = s.link.tx) (hfifo : t.link.fifo = fifoCleared s) :
    fifoCleared t = fifoCleared s := by
  rw [fifoCleared, htx, hfifo]
  unfold fifoCleared
  split <;> simp_all

/-- The clearing of the collections after a reset of the blocks leaves the blocks reset. -/
theorem blocksReset_clearCollections {s t : State} (h : blocksReset s t) : blocksReset s (clearCollections t) := by
  obtain ⟨h1, h2, h3, h4, h5, h6, h7, h8, h9, h10, hfifo, htx, h13, h14, h15, h16, h17, h18, h19, h20, h21, -, -, -, hgun, hmode,
    hpulse, hlength, hspacing⟩ := h
  have hcleared := fifoCleared_again htx hfifo
  rw [clearCollections_eq]
  exact ⟨h1, h2, h3, h4, h5, h6, h7, h8, h9, h10, hcleared, htx, h13, h14, h15, h16, h17, h18, h19, h20, h21, rfl, rfl, rfl,
    hgun, hmode, hpulse, hlength, hspacing⟩

/-- R168: damage met in the station record of a settled station makes every block as at a STATION RESET, and the collections
empty; the requests of the other requesters stand. -/
theorem stationClear_resets {s : State} (hs : Settled s) :
    blocksReset s (stationClear s) ∧ collectionsEmpty (stationClear s) ∧ (stationClear s).link.present = s.link.present ∧
      (stationClear s).store.cells = s.store.cells ∧ (stationClear s).store.rxReqs = s.store.rxReqs ∧
      (stationClear s).store.markerReq = s.store.markerReq := by
  obtain ⟨hstep, hrev⟩ := hs
  have hwhole : completeCount s = s := by simp [completeCount, hstep, hrev]
  have hclear : stationClear s = clearCollections (stationReset s) := by rw [stationClear, hwhole]
  rw [hclear]
  refine ⟨blocksReset_clearCollections (stationReset_blocksReset ⟨hstep, hrev⟩), clearCollections_empty _, ?_⟩
  rw [clearCollections_eq, stationReset_eq]
  exact ⟨rfl, rfl, rfl, rfl⟩

/-- STATION RESET on a frame that passes the tests of a reception. -/
theorem exec_stationReset {s : State} {f : Frame} (h : FromRecorder s 8 f) :
    exec (.stationReset f) s =
      .next (takeFrame (fun _ => true) (fun s => linkWake (arbitrate (raiseRx .clearing (stationReset s)))) s) :=
  congrArg Host.Outcome.next (receive_recorder _ h (by decide : 8 ≤ 9))

/-- Settles O52: the frame resets the blocks, its access empties the collections. -/
theorem stationResetClears : Obligations.StationResetClears := by
  refine ⟨fun s f hframe hs hn => ?_, fun s s1 htake hcalm => ?_⟩
  · rw [exec_stationReset hframe, takeFrame_taken rfl hs hn]
    obtain ⟨g, r, k, q, a, w, hend⟩ := wakeArbitrate_frame (raiseRx .clearing (stationReset s))
    have hreset := stationReset_blocksReset hs
    rw [hend]
    refine ⟨_, rfl, hreset, ?_⟩
    rw [stationReset_eq]
    exact ⟨rfl, rfl, rfl, rfl, rfl, rfl, rfl⟩
  · obtain ⟨-, x, rest, -, -, hs1⟩ := takeRx_spec htake
    have hcalm1 : Calm (clearCollections s1) := by
      rw [clearCollections_eq]
      subst hs1
      exact hcalm
    obtain ⟨g, r, k, q, a, w, hend⟩ := release_frame hcalm1
    have hexec : exec .stationResetClearing s = .next (release (clearCollections s1)) := by
      simp only [exec, execStationResetClearing, htake]
    have hempty := clearCollections_empty s1
    rw [hexec, hend]
    refine ⟨_, rfl, hempty, ?_⟩
    rw [clearCollections_eq]
    subst hs1
    exact ⟨rfl, rfl, rfl, rfl, rfl, rfl, rfl, rfl, rfl, rfl⟩

end Sys2Proof.Machine
end

section
/-! PROOFS. Timers (R20, R160, R173, R186), damage to the station record (R168), and the arms (R184). -/

namespace Sys2Proof.Machine

/-! Damage to the station record (R167, R168). -/

/-- The state as damage to the station record is found: it is counted, the record is absent, and the return to SETUP waits for
the end of the work. -/
def stationDamaged (s : State) : State :=
  { s with
    link := { s.link with
      counts := { s.link.counts with storeUncorrectable := min 255 (s.link.counts.storeUncorrectable + 1) }
      present := false }
    store := { s.store with clearAtRelease := true } }

/-- The words of the station record. -/
theorem regionOf_station {a : Nat} (h : a < 16) : regionOf a = (.station, a) := if_pos h

/-- A double error in a word of a present station record (R167). -/
theorem readDouble_station {a : Nat} {s : State} (ha : a < 16) (hp : s.link.present = true) :
    readDouble a s = stationDamaged s := by
  have hlive : live (s.count addStoreUncorrectable) .station = true := hp
  simp only [readDouble, regionOf_station ha, hlive, if_true]
  rfl

/-- The end of work that met damage in the station record, on a settled station (R168, R171, R179). -/
theorem finish_damaged {s : State} (h : s.store.clearAtRelease = true) :
    ∃ g r k q a w, finish s = { stationClear s with
      store := { (stationClear s).store with grant := g, grantRun := r, grantShots := k, scrubReq := q, clearAtRelease := false }
      link := { (stationClear s).link with access := a, wait := w } } := by
  let u : State := { stationClear s with store := { (stationClear s).store with clearAtRelease := false } }
  have hfinish : finish s = arbitrate (linkWake u) := by
    unfold finish clearDamage
    rw [if_pos h]
  obtain ⟨a, w, hwake⟩ := linkWake_frame u
  obtain ⟨g, r, k, q, harb⟩ := arbitrate_frame (linkWake u)
  exact ⟨g, r, k, q, a, w, by rw [hfinish, harb, hwake]⟩

/-- What the return to SETUP leaves, the wakings at its end apart (R168). -/
theorem stationClear_damaged {s : State} (hs : Settled s) :
    blocksReset s (stationClear (stationDamaged s)) ∧ collectionsEmpty (stationClear (stationDamaged s)) ∧
      (stationClear (stationDamaged s)).link.present = false ∧
      (stationClear (stationDamaged s)).store.cells = s.store.cells ∧
      (stationClear (stationDamaged s)).store.rxReqs = s.store.rxReqs ∧
      (stationClear (stationDamaged s)).store.markerReq = s.store.markerReq :=
  stationClear_resets (s := stationDamaged s) hs

/-! Timers. -/

/-- The status interval's word found damaged (R168, R186). -/
theorem statusInterval_damaged {s : State} (hrun : s.link.run = .run) (hdouble : bitCount 39 (s.word 7).changed = 2)
    (hp : s.link.present = true) : exec .statusIntervalReached s = .next (linkWake (finish (stationDamaged s))) := by
  simp only [exec, execStatusIntervalReached, if_pos hrun, readStation, readWords, readWord_double hdouble,
    readDouble_station (by decide : 7 < 16) hp]

/-- Settles O12, timer by timer. -/
theorem timerExpiries : Obligations.TimerExpiries := by
  intro s
  have h7 : 7 ∈ [7] := List.mem_singleton.mpr rfl
  refine ⟨fun time htime => ?_, fun period hrun htimer => ?_, fun htimer hreq => ?_, fun htimer hreq => ?_,
    fun hreq hwait => ?_, fun hrun hsound hcalm hreached => ?_, fun hrun hsound hshort => ?_,
    fun hrun hdouble hp hs => ?_, fun htimer => ?_⟩
  · simp only [exec, execMarkerPulseExpiry, htime, Option.isSome_some, if_true]
    rfl
  · have hrunning : s.link.run = .run ∧ s.sched.repTimer.isSome = true := ⟨hrun, by rw [htimer]; rfl⟩
    simp only [exec, execRepetitionTimerExpiry, if_pos hrunning]
    rfl
  · simp only [exec, execScrubTimerExpiry, if_pos htimer, State.setStore, hreq]
    rfl
  · simp only [exec, execScrubTimerExpiry, if_pos htimer, State.setStore, hreq, if_true, Bool.true_and]
    rfl
  · have hurgent : s.store.scrubReq = true ∧ 4 ≤ s.store.scrubWait := ⟨hreq, hwait.ge⟩
    simp only [exec, execScrubRequestUrgent, if_pos hurgent]
    rfl
  · simp only [exec, execStatusIntervalReached, if_pos hrun, readStation_sound hsound, stationRead_statusInterval h7,
      if_pos hreached]
    rw [finish_calm (by exact hcalm)]
    rfl
  · simp only [exec, execStatusIntervalReached, if_pos hrun, readStation_sound hsound, stationRead_statusInterval h7,
      if_neg (Nat.not_le.mpr hshort)]
  · rw [statusInterval_damaged hrun hdouble hp]
    obtain ⟨hreset, hempty, hpresent, hcells, -⟩ := stationClear_damaged hs
    obtain ⟨g, r, k, q, a, w, hfinish⟩ := finish_damaged (s := stationDamaged s) rfl
    obtain ⟨a', w', hwake⟩ := linkWake_frame (finish (stationDamaged s))
    rw [hwake, hfinish]
    exact ⟨_, rfl, hpresent, hreset, hempty, hcells⟩
  · simp only [exec, execStatusTimerExpiry, if_pos htimer]
    rfl

/-! The store access of a setup frame (R174). -/

/-- What the storing of a setup frame leaves, whatever it is. -/
def SetupFrame (s t : State) : Prop :=
  t.strap = s.strap ∧ t.link.access = s.link.access ∧ t.link.clash = s.link.clash ∧
    t.store.clearAtRelease = s.store.clearAtRelease ∧ t.odo.stepReached = s.odo.stepReached ∧
    t.odo.revReached = s.odo.revReached

/-- A setup frame stored in READY returns the run state to SETUP; in any other run state it stands (R184). -/
theorem afterStore_run (s : State) :
    (afterStore s).link.run = if s.link.run = .ready then .setup else s.link.run := by
  unfold afterStore
  split <;> rfl

theorem afterStore_setupFrame (s : State) : SetupFrame s (afterStore s) := by
  unfold afterStore
  split
  · exact ⟨rfl, rfl, rfl, rfl, rfl, rfl⟩
  · exact ⟨rfl, rfl, rfl, rfl, rfl, rfl⟩

/-- What is stored before the run state is looked at, for each kind of setup frame. -/
theorem storeFrame_eq {r : RxReq} {s : State} (hr : asSetup r = some r) (hg : ¬(s.store.grantRun = .run ∨ s.store.grantRun = .hold)) :
    ∃ t, SetupFrame s t ∧ t.link.run = s.link.run ∧ storeFrame r s = afterStore t := by
  cases r
  case station p =>
    refine ⟨_, ?_, ?_, if_neg hg⟩
    · rw [writeWords_frame]
      exact ⟨rfl, rfl, rfl, rfl, rfl, rfl⟩
    · rw [writeWords_frame]
  case slot p =>
    refine ⟨_, ?_, ?_, if_neg hg⟩
    · rw [writeWords_frame]
      exact ⟨rfl, rfl, rfl, rfl, rfl, rfl⟩
    · rw [writeWords_frame]
  case curve p =>
    refine ⟨_, ?_, ?_, if_neg hg⟩
    · rw [writeWords_frame]
      exact ⟨rfl, rfl, rfl, rfl, rfl, rfl⟩
    · rw [writeWords_frame]
  all_goals exact absurd hr nofun

/-- A setup frame is taken as it waits. -/
theorem asSetup_eq {x r : RxReq} (h : asSetup x = some r) : asSetup r = some r := by
  cases x <;> cases h <;> rfl

/-- The store access of a setup frame: what it leaves, and the run state after it (R174, R184). -/
theorem storeFrame_frame {r : RxReq} {s : State} (hr : asSetup r = some r) :
    SetupFrame s (storeFrame r s) ∧ (storeFrame r s).link.run =
      if (s.store.grantRun = .run ∨ s.store.grantRun = .hold) ∨ s.link.run ≠ .ready then s.link.run else .setup := by
  by_cases hg : s.store.grantRun = .run ∨ s.store.grantRun = .hold
  · have habort : storeFrame r s = s.count addSetupRefused := if_pos hg
    rw [if_pos (.inl hg), habort]
    exact ⟨⟨rfl, rfl, rfl, rfl, rfl, rfl⟩, rfl⟩
  · obtain ⟨t, ⟨h1, h2, h3, h4, h5, h6⟩, hrun, heq⟩ := storeFrame_eq hr hg
    obtain ⟨k1, k2, k3, k4, k5, k6⟩ := afterStore_setupFrame t
    rw [heq]
    refine ⟨⟨k1.trans h1, k2.trans h2, k3.trans h3, k4.trans h4, k5.trans h5, k6.trans h6⟩, ?_⟩
    rw [afterStore_run, hrun]
    by_cases hready : s.link.run = .ready
    · rw [if_pos hready, if_neg (not_or.mpr ⟨hg, not_not.mpr hready⟩)]
    · rw [if_neg hready, if_pos (.inr hready)]

/-- What the store access of a setup frame leaves with its release: a reception and the settling of a count go on as before. -/
theorem runSetupStore_frame {s s1 : State} {r : RxReq} (htake : takeRx asSetup s = some (r, s1)) (hcalm : Calm s) :
    (runSetupStore s).strap = s.strap ∧ (s.link.access ≠ .sending → (runSetupStore s).link.access ≠ .sending) ∧
      (Settled s → Settled (runSetupStore s)) ∧ (runSetupStore s).link.run =
      if (s.store.grantRun = .run ∨ s.store.grantRun = .hold) ∨ s.link.run ≠ .ready then s.link.run else .setup := by
  obtain ⟨-, x, rest, -, hx, hs1⟩ := takeRx_spec htake
  obtain ⟨⟨hstrap, haccess, -, hclear, hstep, hrev⟩, hrun⟩ := storeFrame_frame (s := s1) (asSetup_eq hx)
  have hcalm1 : Calm (storeFrame r s1) := hclear.trans (by subst hs1; exact hcalm)
  have hstore : runSetupStore s = release (storeFrame r s1) := by simp only [runSetupStore, htake]
  have hidle : s.link.access ≠ .sending → (release (storeFrame r s1)).link.access ≠ .sending := by
    intro h
    rw [release_calm hcalm1]
    have hkept : (arbitrate ((storeFrame r s1).withGrant none)).link.access = s.link.access := by
      rw [arbitrate_link]
      exact haccess.trans (by subst hs1; rfl)
    obtain hstays | ⟨-, -, hwakes⟩ := linkWake_cases (arbitrate ((storeFrame r s1).withGrant none))
    · rw [hstays, hkept]
      exact h
    · rw [hwakes]
      exact nofun
  obtain ⟨g, rr, k, q, a, w, hrel⟩ := release_frame hcalm1
  rw [hstore]
  refine ⟨?_, hidle, fun hs => ?_, ?_⟩
  · rw [hrel]
    exact hstrap.trans (by subst hs1; rfl)
  · rw [hrel]
    obtain ⟨hsstep, hsrev⟩ := hs
    exact ⟨hstep.trans (by subst hs1; exact hsstep), hrev.trans (by subst hs1; exact hsrev)⟩
  · rw [hrel]
    refine hrun.trans ?_
    subst hs1
    rfl

/-- In HOLD the station stays there through the store access of a setup frame. -/
theorem runSetupStore_hold {s : State} (hcalm : Calm s) (hrun : s.link.run = .hold) :
    (runSetupStore s).strap = s.strap ∧ (s.link.access ≠ .sending → (runSetupStore s).link.access ≠ .sending) ∧
      (runSetupStore s).link.run = .hold := by
  cases htake : takeRx asSetup s with
  | none => rw [runSetupStore_none htake]; exact ⟨rfl, id, hrun⟩
  | some y =>
    obtain ⟨hstrap, haccess, -, hafter⟩ := runSetupStore_frame htake hcalm
    refine ⟨hstrap, haccess, hafter.trans ?_⟩
    rw [if_pos (.inr (by rw [hrun]; decide)), hrun]

/-! The arms (R16, R18, R20, R184). -/

/-- The working wedge delays loaded from sound records, slot by slot (R18). -/
theorem foldl_loadWedge_sound (l : List Slot) {s : State} (h : ∀ n, SoundSlot s n [2]) :
    l.foldl loadWedge s = { s with sched := { s.sched with
      wedge := l.foldl (fun w n => put w n (min 4095 (slotAt s n).wedge)) s.sched.wedge } } := by
  induction l generalizing s with
  | nil => rfl
  | cons n rest ih =>
    have hload : loadWedge s n = { s with sched := { s.sched with
        wedge := put s.sched.wedge n (min 4095 (slotAt s n).wedge) } } := by
      simp only [loadWedge, readSlotOn_sound (h n), slotRead_wedge (List.mem_singleton.mpr rfl)]
      rfl
    rw [List.foldl_cons, hload, ih (by exact h)]
    rfl

/-- The repetition timer on sound words of the station record (R20). -/
theorem armTimer_sound {s : State} (hc : Calm s) (h : Sound s [0, 1]) :
    armTimer s = { s with sched := { s.sched with repTimer := timerOnArm s } } := by
  have h0 : 0 ∈ [0, 1] := by decide
  have h1 : 1 ∈ [0, 1] := by decide
  simp only [armTimer, readStationOn_sound hc h, stationRead_trigger h0, stationRead_period h1]
  rfl

/-- ARM NEW on a frame that passes the tests of a reception. -/
theorem exec_armNew {s : State} {f : Frame} (h : FromRecorder s 5 f) :
    exec (.armNew f) s = .next (if byteAt f.payload 0 = 0 then
      takeFrame takesArmNew (fun s => linkWake (finish (armNewBody (s32At f.payload 1) s))) s else s) :=
  congrArg Host.Outcome.next (receive_recorder _ h (by decide : 5 ≤ 9))

/-- Whether the run state takes an ARM RESUME (R184). -/
def takesArmResume (s : State) : Bool := s.link.run == .hold

/-- ARM RESUME on a frame that passes the tests of a reception. -/
theorem exec_armResume {s : State} {f : Frame} (h : FromRecorder s 5 f) :
    exec (.armResume f) s = .next (if byteAt f.payload 0 = 1 then
      takeFrame takesArmResume (fun s => linkWake (finish (armResumeBody s))) s else s) :=
  congrArg Host.Outcome.next (receive_recorder _ h (by decide : 5 ≤ 9))

/-- In HOLD an arm comes after the store access of a setup frame (R174, log 42). -/
theorem takeFrame_afterStore {taken : State → Bool} {body : State → State} {s : State} (hs : taken s = true)
    (hu : taken (runSetupStore s) = true) (hn : NoSetupStore (runSetupStore s)) :
    takeFrame taken body s = takeFrame taken body (runSetupStore s) := by
  simp only [takeFrame, hs, hu, runSetupStore_none hn, if_true]

/-- The state at ARM NEW before the setup words are read. -/
def armedNew (start : Int) (s : State) : State :=
  { s with
    odo := odoArmNew start s.odo
    sched := unsettle s.sched
    rail := noDeferral s.rail
    coup := coupClear s.coup
    trk := TrackerUnit.powerOn
    conf := ConfUnit.powerOn
    rep := reportsArmNew s
    mark := markArmNew (clampPos start + s.mark.gunOffset) s.mark
    store := { s.store with txReqs := (fifoClear s).store.txReqs }
    link := { s.link with
      counts := Counts.zero, clash := false, gapList := [], untold := noUntold, fifo := fifoCleared s
      run := .run, statusDue := true, stepCount := 0, statusTimer := none } }

/-- ARM NEW on sound setup words. -/
theorem armNewBody_sound (start : Int) {s : State} (hc : Calm s) (h : Sound s [0, 1]) (hslot : ∀ n, SoundSlot s n [2]) :
    armNewBody start s = { armedNew start s with sched := { (armedNew start s).sched with
      wedge := allSlots.foldl (fun w n => put w n (min 4095 (slotAt s n).wedge)) s.sched.wedge
      repTimer := timerOnArm s } } := by
  have harmed : armNewBody start s = armTimer (allSlots.foldl loadWedge (armedNew start s)) := by
    unfold armNewBody
    dsimp only
    rw [fifoClear_eq s]
    rfl
  rw [harmed, foldl_loadWedge_sound _ (by exact hslot), armTimer_sound (by exact hc) (by exact h)]
  rfl

/-- ARM RESUME on sound setup words. -/
theorem armResumeBody_sound {s : State} (hc : Calm s) (h : Sound s [0, 1]) :
    armResumeBody s = { s with
      sched := { unsettle s.sched with repTimer := timerOnArm s }
      rail := noDeferral s.rail
      coup := coupResume s.coup
      link := { s.link with run := .run, statusDue := true, stepCount := 0, statusTimer := none } } := by
  unfold armResumeBody
  rw [armTimer_sound (by exact hc) (by exact h)]
  rfl

/-- The odometry at an ARM NEW of a settled station (R16). -/
theorem odoArmNew_settled (start : Int) {s : State} (hs : Settled s) :
    odoArmNew start s.odo = { s.odo with
      pc := clampPos start, posLimit := decide (start ≠ clampPos start), acc := 0, revRun := 0, index := 0 } := by
  have hlimit : (!inPosRange start) = decide (start ≠ clampPos start) := by
    rw [Bool.eq_iff_iff, posLimit_iff, decide_eq_true_iff]
  simp only [odoArmNew, odoStationReset_settled hs, hlimit]

/-- Settles O49: the mode first, then the run state, then what the body makes of sound words. -/
theorem armsEnterRun : Obligations.ArmsEnterRun := by
  intro s f hframe fresh
  have hbyte : byteAt f.payload 0 = (f.payload.getD 0 0).toNat := rfl
  refine ⟨fun hmode => ?other, fun u hrun hs hcalm hu hnone => ?store, fun hmode => ⟨fun hrun => ?ignored,
    fun r s1 hrun htake hstores hs hcalm => ?aborted, fun hrun hs hnone hcalm hsound hslots => ?new⟩,
    fun hmode => ⟨fun hrun => ?elsewhere, fun hrun hs hnone hcalm hsound => ?resume⟩⟩
  case other =>
    rw [exec_armNew hframe, exec_armResume hframe, hbyte, if_neg (by omega), if_neg (by omega)]
    exact ⟨rfl, rfl⟩
  case store =>
    obtain rfl : runSetupStore s = u := by
      have hexec : exec .setupFrameStore s = .next (runSetupStore s) := rfl
      rw [hexec] at hu
      exact Host.Outcome.next.inj hu
    obtain ⟨hstrap, haccess, hafter⟩ := runSetupStore_hold hcalm hrun
    have hframe1 : FromRecorder (runSetupStore s) 5 f := by
      obtain ⟨⟨hidle, hlength, hdest⟩, hsource⟩ := hframe
      refine ⟨⟨haccess hidle, hlength, ?_⟩, hsource⟩
      rwa [hstrap]
    rw [exec_armNew hframe, exec_armNew hframe1, exec_armResume hframe, exec_armResume hframe1, hbyte]
    refine ⟨fun h0 => ?_, fun h1 => ?_⟩
    · rw [if_pos h0, if_pos h0, takeFrame_afterStore (by rw [takesArmNew, hrun]; rfl) (by rw [takesArmNew, hafter]; rfl) hnone]
    · rw [if_pos h1, if_pos h1, takeFrame_afterStore (by rw [takesArmResume, hrun]; rfl)
        (by rw [takesArmResume, hafter]; rfl) hnone]
  case ignored =>
    have htaken : takesArmNew s = false := by
      obtain h | h := hrun <;> (rw [takesArmNew, h]; rfl)
    rw [exec_armNew hframe, hbyte, if_pos hmode, takeFrame_not htaken]
  case aborted =>
    obtain ⟨hgrant, -⟩ := hstores
    obtain ⟨-, -, hsettled, hafter⟩ := runSetupStore_frame htake hcalm
    have hgranted : ¬((s.store.grantRun = .run ∨ s.store.grantRun = .hold) ∨ s.link.run ≠ .ready) := by
      obtain h | h := hgrant <;> simp [h, hrun]
    rw [if_neg hgranted] at hafter
    have htaken : takesArmNew s = true := by rw [takesArmNew, hrun]; rfl
    have hnot : takesArmNew (runSetupStore s) = false := by rw [takesArmNew, hafter]; rfl
    have hexec : exec .setupFrameStore s = .next (runSetupStore s) := rfl
    rw [exec_armNew hframe, hbyte, if_pos hmode, hexec, takeFrame, if_pos htaken]
    simp only [(hsettled hs).settleCount_eq, hnot, Bool.false_eq_true, if_false]
  case new =>
    intro start pc gun
    have htaken : takesArmNew s = true := by
      obtain h | h := hrun <;> (rw [takesArmNew, h]; rfl)
    rw [exec_armNew hframe, hbyte, if_pos hmode, takeFrame_taken htaken hs hnone, armNewBody_sound _ hcalm hsound hslots,
      finish_calm (by exact hcalm)]
    obtain ⟨g, r, k, q, a, w, hend⟩ := wakeArbitrate_frame { armedNew start s with sched := { (armedNew start s).sched with
      wedge := allSlots.foldl (fun w n => put w n (min 4095 (slotAt s n).wedge)) s.sched.wedge
      repTimer := timerOnArm s } }
    have hodo := odoArmNew_settled start hs
    rw [hend]
    refine ⟨_, rfl, ⟨rfl, rfl, rfl, rfl, rfl, rfl, rfl, fun n => ⟨replicate_get false n, replicate_get false n⟩, rfl, rfl, rfl,
      rfl, coupClear_fresh s _ rfl, rfl, rfl, rfl, rfl, rfl⟩, rfl, rfl, rfl, fun n c => ?_, rfl, hodo, fun n => ⟨?_, fun c => ?_⟩,
      fun i => replicate_get none i, rfl, rfl, rfl, rfl, ?_, fun hready => ?_, fun hhold => ?_, rfl⟩
    · have hrow : noUntold[n] = PerCause.all false := replicate_get _ n
      exact (congrArg (PerCause.get · c) hrow).trans (PerCause.all_get false c)
    · exact (foldl_put_get (fun n => min 4095 (slotAt s n).wedge) allSlots s.sched.wedge n).trans (if_pos (mem_allSlots n))
    · have hrow : (coupClear s.coup).gaps[n] = PerCause.all none := replicate_get _ n
      exact (congrArg (PerCause.get · c) hrow).trans (PerCause.all_get none c)
    · have hlocked : (reportsArmNew s).locked = s.rep.locked := by
        unfold reportsArmNew
        split <;> rfl
      exact hlocked
    · have hreports : reportsArmNew s = s.rep := if_neg (by rw [hready]; decide)
      exact hreports
    · have hreports : (reportsArmNew s).records = if s.rep.locked.isSome then s.rep.records.take 1 else [] := by
        rw [reportsArmNew, if_pos hhold]
      exact hreports
  case elsewhere =>
    have htaken : takesArmResume s = false := beq_false_of_ne hrun
    rw [exec_armResume hframe, hbyte, if_pos hmode, takeFrame_not htaken]
  case resume =>
    have htaken : takesArmResume s = true := beq_iff_eq.mpr hrun
    rw [exec_armResume hframe, hbyte, if_pos hmode, takeFrame_taken htaken hs hnone, armResumeBody_sound hcalm hsound,
      finish_calm (by exact hcalm)]
    obtain ⟨g, r, k, q, a, w, hend⟩ := wakeArbitrate_frame { s with
      sched := { unsettle s.sched with repTimer := timerOnArm s }
      rail := noDeferral s.rail
      coup := coupResume s.coup
      link := { s.link with run := .run, statusDue := true, stepCount := 0, statusTimer := none } }
    have hcoup : couplingFresh s { s with coup := coupResume s.coup } := coupClear_fresh s { s with coup := coupClear s.coup } rfl
    rw [hend]
    exact ⟨_, rfl, ⟨rfl, rfl, rfl, rfl, rfl, rfl, rfl, fun n => ⟨replicate_get false n, replicate_get false n⟩, rfl, rfl, rfl,
      rfl, hcoup, rfl, rfl, rfl, rfl, rfl⟩, rfl, rfl, rfl, rfl, rfl, rfl, rfl, rfl, rfl, rfl, rfl, rfl⟩

end Sys2Proof.Machine
end

section
/-! PROOFS. The scrubber (R173) and what each owner does at damage in its words (R167). -/

namespace Sys2Proof.Machine

/-! Regions by address (R165). -/

theorem regionOf_slot {a : Nat} {n : Slot} (hlo : 16 + 24 * n.val ≤ a) (hhi : a < 40 + 24 * n.val) :
    (regionOf a).1 = .slot n := by
  have hn := n.isLt
  have hq : (a - 16) / 24 = n.val := by omega
  have hfin : Fin.ofNat 12 n.val = n := Fin.ext (Nat.mod_eq_of_lt hn)
  rw [regionOf, if_neg (by omega), if_pos (by omega), hq, hfin]

theorem regionOf_curve {a : Nat} {c : Area} {p : Piece} (hlo : 304 + 16 * c.val + 4 * p.val ≤ a)
    (hhi : a < 308 + 16 * c.val + 4 * p.val) : (regionOf a).1 = .curve c p := by
  have hc := c.isLt
  have hp := p.isLt
  have hq : (a - 304) / 16 = c.val := by omega
  have hr : (a - 304) % 16 / 4 = p.val := by omega
  have hcfin : Fin.ofNat 8 c.val = c := Fin.ext (Nat.mod_eq_of_lt hc)
  have hpfin : Fin.ofNat 4 p.val = p := Fin.ext (Nat.mod_eq_of_lt hp)
  rw [regionOf, if_neg (by omega), if_neg (by omega), if_pos (by omega), hq, hr, hcfin, hpfin]

theorem regionOf_entry {a : Nat} {i : Fin 32} (hlo : 432 + 8 * i.val ≤ a) (hhi : a < 440 + 8 * i.val) :
    (regionOf a).1 = .entry i := by
  have hi := i.isLt
  have hq : (a - 432) / 8 = i.val := by omega
  have hfin : Fin.ofNat 32 i.val = i := Fin.ext (Nat.mod_eq_of_lt hi)
  rw [regionOf, if_neg (by omega), if_neg (by omega), if_neg (by omega), if_pos (by omega), hq, hfin]

theorem regionOf_conf {a p : Nat} (hp : p < 24) (hlo : 688 + 4 * p ≤ a) (hhi : a < 692 + 4 * p) :
    (regionOf a).1 = .conf p := by
  have hq : (a - 688) / 4 = p := by omega
  rw [regionOf, if_neg (by omega), if_neg (by omega), if_neg (by omega), if_neg (by omega), if_pos (by omega), hq]

theorem regionOf_zone {a p : Nat} (hp : p < 8) (hlo : 784 + 4 * p ≤ a) (hhi : a < 788 + 4 * p) :
    (regionOf a).1 = .zone p := by
  have hq : (a - 784) / 4 = p := by omega
  rw [regionOf, if_neg (by omega), if_neg (by omega), if_neg (by omega), if_neg (by omega), if_neg (by omega),
    if_pos (by omega), hq]

theorem regionOf_fifo {a p : Nat} (hp : p < 4) (hlo : 816 + 4 * p ≤ a) (hhi : a < 820 + 4 * p) :
    (regionOf a).1 = .fifo p := by
  have hq : (a - 816) / 4 = p := by omega
  rw [regionOf, if_neg (by omega), if_neg (by omega), if_neg (by omega), if_neg (by omega), if_neg (by omega),
    if_neg (by omega), if_pos (by omega), hq]

theorem regionOf_report {a p : Nat} (hp : p < 16) (hlo : 832 + 11 * p ≤ a) (hhi : a < 843 + 11 * p) :
    (regionOf a).1 = .report p := by
  have hq : (a - 832) / 11 = p := by omega
  rw [regionOf, if_neg (by omega), if_neg (by omega), if_neg (by omega), if_neg (by omega), if_neg (by omega),
    if_neg (by omega), if_neg (by omega), if_pos (by omega), hq]

theorem regionOf_mark {a p : Nat} (hlo : 1008 + 2 * p ≤ a) (hhi : a < 1010 + 2 * p) : (regionOf a).1 = .mark p := by
  have hq : (a - 1008) / 2 = p := by omega
  rw [regionOf, if_neg (by omega), if_neg (by omega), if_neg (by omega), if_neg (by omega), if_neg (by omega),
    if_neg (by omega), if_neg (by omega), if_neg (by omega), hq]

/-- Whether a collection holds an item in a place. -/
theorem holds_iff {α : Type} (l : List (Placed α)) (p : Nat) : holds l p = true ↔ ∃ x ∈ l, x.place = p := by
  simp [holds]

theorem holds_eq_false_iff {α : Type} (l : List (Placed α)) (p : Nat) : holds l p = false ↔ ∀ x ∈ l, x.place ≠ p := by
  simp [holds]

/-- A word of an item that no owner holds is not live (R165). -/
theorem live_of_notLive {s : State} {a : Nat} (h : notLive s a) : live s (regionOf a).1 = false := by
  obtain ⟨ha, hp⟩ | ⟨c, p, hlo, hhi, hp⟩ | ⟨i, hlo, hhi, hi⟩ | ⟨p, hp, hlo, hhi, hx⟩ | ⟨p, hp, hlo, hhi, hx⟩ |
    ⟨p, hp, hlo, hhi, hx⟩ | ⟨p, hp, hlo, hhi, hx⟩ | ⟨p, hp, hlo, hhi, hx⟩ := h
  · rw [regionOf_station ha]
    exact hp
  · rw [regionOf_curve hlo hhi]
    exact hp
  · rw [regionOf_entry hlo hhi]
    exact Option.isSome_eq_false_iff.mpr (Option.isNone_iff_eq_none.mpr hi)
  · rw [regionOf_conf hp hlo hhi]
    exact (holds_eq_false_iff _ _).mpr hx
  · rw [regionOf_zone hp hlo hhi]
    exact (holds_eq_false_iff _ _).mpr hx
  · rw [regionOf_fifo hp hlo hhi]
    exact (holds_eq_false_iff _ _).mpr hx
  · rw [regionOf_report hp hlo hhi]
    exact (holds_eq_false_iff _ _).mpr hx
  · rw [regionOf_mark hlo hhi]
    exact (holds_eq_false_iff _ _).mpr hx

/-! The scrub read (R173). -/

/-- The Track Store's scrubber after a scrub read (R173). -/
def StoreUnit.scrubbed (u : StoreUnit) : StoreUnit :=
  { u with scrubAddr := nextScrub u.scrubAddr, scrubWait := if u.scrubReq then u.scrubWait else 0,
           scrubUrgent := u.scrubReq && u.scrubUrgent }

theorem exec_scrubRead {s : State} (h : s.store.grant = some .scrubber) :
    exec .scrubRead s = .next (release ((readWord s.store.scrubAddr s).1.setStore StoreUnit.scrubbed)) := by
  have hgrants : grants s .scrubber = true := by simp [grants, h]
  simp only [exec, execScrubRead, hgrants, if_true]
  rfl

/-- The next scrub address, within the store (R173). -/
theorem nextScrub_eq {a : Nat} (h : a ≤ 1023) : nextScrub a = if a = 1023 then 0 else a + 1 := by
  by_cases ha : a = 1023
  · rw [if_pos ha, nextScrub, if_pos ha.ge]
  · rw [if_neg ha, nextScrub, if_neg (by omega)]

/-- A scrub read of a live word with two changed bits: the error counted and its owner acting (R167). -/
theorem scrubRead_live {s : State} {r : Region} (hgrant : s.store.grant = some .scrubber)
    (hdouble : bitCount 39 (s.word s.store.scrubAddr).changed = 2) (hr : (regionOf s.store.scrubAddr).1 = r)
    (hlive : live s r = true) :
    exec .scrubRead s =
      .next (release ((ownerAction r (s.count addStoreUncorrectable)).setStore StoreUnit.scrubbed)) := by
  have hlive1 : live (s.count addStoreUncorrectable) r = true := by
    cases r <;> exact hlive
  rw [exec_scrubRead hgrant, readWord_double hdouble]
  simp only [readDouble, hr, hlive1, if_true]

/-! The area words of the slots (R61). -/

/-- A sound area word is read as it was written. -/
theorem readArea_sound {n : Slot} {s : State} (h : SoundSlot s n [1]) :
    readArea n s = (s, some (s.word (slotBase n + 1)).data) := by
  have hzero : (s.word (slotBase n + 1)).changed = 0 := h _ (List.mem_map.mpr ⟨1, List.mem_singleton.mpr rfl, rfl⟩)
  have hcount : bitCount 39 (0 : BitVec 39) = 0 := by decide
  simp only [readArea, readWith, judge, hzero, hcount]

/-- A slot record's area lies in its word 1 alone. -/
theorem slotOfWords_area (s : State) (n : Slot) :
    (slotOfWords [0, (s.word (slotBase n + 1)).data]).area = (slotAt s n).area := by
  have hf (f : Nat → Word) : (slotBy f).area = (slotOfWords [0, f 1]).area := rfl
  rw [slotAt_eq, hf]

/-- A slot that names the damaged area takes flat gain DAMAGED, its area word being sound (R61). -/
theorem damageNaming_sound {a : Area} {n : Slot} {s : State} (h : SoundSlot s n [1]) :
    damageNaming a s n = { s with gain := { s.gain with
      flat := if (slotAt s n).area = some a then put s.gain.flat n .damaged else s.gain.flat } } := by
  simp only [damageNaming, readArea_sound h, slotOfWords_area]
  split <;> rfl

/-- The marks after the slots listed have been looked at (R61). -/
theorem foldl_damageNaming_sound (a : Area) (l : List Slot) {s : State} (h : ∀ n, SoundSlot s n [1]) :
    ∃ flat, l.foldl (damageNaming a) s = { s with gain := { s.gain with flat := flat } } ∧
      ∀ m : Slot, flat[m] = if m ∈ l ∧ (slotAt s m).area = some a then .damaged else s.gain.flat[m] := by
  induction l generalizing s with
  | nil => exact ⟨s.gain.flat, rfl, fun m => by simp⟩
  | cons n rest ih =>
    obtain ⟨flat, hrest, hget⟩ := ih (s := damageNaming a s n) (by rw [damageNaming_sound (h n)]; exact h)
    refine ⟨flat, ?_, fun m => ?_⟩
    · rw [List.foldl_cons, hrest, damageNaming_sound (h n)]
    · have hrecord : slotAt (damageNaming a s n) m = slotAt s m := by rw [damageNaming_sound (h n)]; rfl
      have hflat : (damageNaming a s n).gain.flat[m] =
          if m = n ∧ (slotAt s m).area = some a then .damaged else s.gain.flat[m] := by
        rw [damageNaming_sound (h n)]
        by_cases hname : (slotAt s n).area = some a
        · simp only [if_pos hname, put_get]
          by_cases hm : m = n
          · subst hm
            rw [if_pos rfl, if_pos ⟨rfl, hname⟩]
          · rw [if_neg hm, if_neg fun hk : m = n ∧ _ => hm hk.1]
        · simp only [if_neg hname]
          refine (if_neg ?_).symm
          rintro ⟨rfl, hk⟩
          exact hname hk
      rw [hget, hrecord, hflat]
      by_cases hname : (slotAt s m).area = some a
      · simp only [hname, and_true, List.mem_cons]
        grind
      · simp only [hname, and_false, if_false]

/-- A word with no changed bit stands as it was written. -/
theorem changed_of_bitCount_zero {m : BitVec 39} (h : bitCount 39 m = 0) : m = 0 := by
  have hbits (k : Nat) (hk : bitCount k m = 0) : ∀ i < k, m.getLsbD i = false := by
    induction k with
    | zero => exact fun i hi => absurd hi (Nat.not_lt_zero i)
    | succ k ih =>
      intro i hi
      rw [bitCount, Nat.add_eq_zero_iff] at hk
      obtain ⟨htop, hrest⟩ := hk
      obtain hik | rfl := Nat.lt_succ_iff_lt_or_eq.mp hi
      · exact ih hrest i hik
      · cases hbit : m.getLsbD i with
        | false => rfl
        | true => rw [hbit] at htop; cases htop
  refine BitVec.eq_of_getLsbD_eq fun i hi => ?_
  simp [hbits 39 h i hi]

/-- A scrub read of a word with at most one changed bit (R166). -/
theorem scrubRead_single {s : State} (hgrant : s.store.grant = some .scrubber) (haddr : s.store.scrubAddr ≤ 1023)
    (hs : MemoryForm s) (hfound : bitCount 39 (s.word s.store.scrubAddr).changed ≤ 1) :
    ∃ cells, exec .scrubRead s = .next (release { s with
        store := { s.store.scrubbed with cells := cells }
        link := { s.link with counts := { s.link.counts with
          storeCorrected := if bitCount 39 (s.word s.store.scrubAddr).changed = 1
            then min 255 (s.link.counts.storeCorrected + 1) else s.link.counts.storeCorrected } } }) ∧
      ∀ t : State, t.store.cells = cells →
        (t.word s.store.scrubAddr).data = (s.word s.store.scrubAddr).data ∧ (t.word s.store.scrubAddr).changed = 0 ∧
        ∀ b, b ≠ s.store.scrubAddr → t.word b = s.word b := by
  obtain hzero | hone := Nat.le_one_iff_eq_zero_or_eq_one.mp hfound
  · have hclean := changed_of_bitCount_zero hzero
    refine ⟨s.store.cells, ?_, fun t ht => ?_⟩
    · rw [exec_scrubRead hgrant, readWord_sound hclean, if_neg (by omega)]
      rfl
    · have hword (b : Nat) : t.word b = s.word b := by rw [State.word, ht, State.word]
      rw [hword]
      exact ⟨rfl, hclean, fun b _ => hword b⟩
  · have hsize : s.store.scrubAddr < storeSize := Nat.lt_succ_of_le haddr
    let w : StoreWord := ⟨(s.word s.store.scrubAddr).data, 0⟩
    refine ⟨(s.setWord s.store.scrubAddr w).store.cells, ?_, fun t ht => ?_⟩
    · rw [exec_scrubRead hgrant, readWord_single hone, setWord_frame, if_pos hone]
      rfl
    · have hword (b : Nat) : t.word b = (s.setWord s.store.scrubAddr w).word b := by rw [State.word, ht, State.word]
      refine ⟨?_, ?_, fun b hb => ?_⟩
      · rw [hword, word_setWord hs hsize, if_pos rfl]
      · rw [hword, word_setWord hs hsize, if_pos rfl]
      · rw [hword, word_setWord hs hsize, if_neg hb]

/-- A scrub read of a word that is not live and has two changed bits (R167). -/
theorem scrubRead_notLive {s : State} (hgrant : s.store.grant = some .scrubber) (haddr : s.store.scrubAddr ≤ 1023)
    (hs : MemoryForm s) (hdouble : bitCount 39 (s.word s.store.scrubAddr).changed = 2) (hn : notLive s s.store.scrubAddr) :
    ∃ cells, exec .scrubRead s = .next (release { s.count addStoreUncorrectable with
        store := { s.store.scrubbed with cells := cells } }) ∧
      ∀ t : State, t.store.cells = cells →
        t.word s.store.scrubAddr = ⟨0, 0⟩ ∧ ∀ b, b ≠ s.store.scrubAddr → t.word b = s.word b := by
  have hlive : live (s.count addStoreUncorrectable) (regionOf s.store.scrubAddr).1 = false := by
    rw [← live_of_notLive hn]
    cases (regionOf s.store.scrubAddr).1 <;> rfl
  have hsize : s.store.scrubAddr < storeSize := Nat.lt_succ_of_le haddr
  let u := s.count addStoreUncorrectable
  refine ⟨(u.setWord s.store.scrubAddr clearedWord).store.cells, ?_, fun t ht => ?_⟩
  · rw [exec_scrubRead hgrant, readWord_double hdouble]
    simp only [readDouble, hlive, Bool.false_eq_true, if_false]
    rw [setWord_frame]
    rfl
  · have hword (b : Nat) : t.word b = (u.setWord s.store.scrubAddr clearedWord).word b := by rw [State.word, ht, State.word]
    refine ⟨?_, fun b hb => ?_⟩
    · rw [hword, word_setWord (by exact hs) hsize, if_pos rfl]
      rfl
    · rw [hword, word_setWord (by exact hs) hsize, if_neg hb]
      rfl

/-- A scrub read that finds the station record damaged (R168). -/
theorem scrubRead_station {s : State} (hgrant : s.store.grant = some .scrubber)
    (hdouble : bitCount 39 (s.word s.store.scrubAddr).changed = 2) (ha : s.store.scrubAddr < 16)
    (hp : s.link.present = true) (hs : Settled s) :
    ∃ t, exec .scrubRead s = .next t ∧ t.link.present = false ∧ blocksReset s t ∧ collectionsEmpty t ∧
      t.store.cells = s.store.cells ∧ t.store.rxReqs = s.store.rxReqs ∧ t.store.markerReq = s.store.markerReq := by
  let u : State := { s with store := { s.store.scrubbed with grant := none } }
  have hexec : exec .scrubRead s = .next (linkWake (finish (stationDamaged u))) := by
    rw [exec_scrubRead hgrant, readWord_double hdouble, readDouble_station ha hp]
    rfl
  obtain ⟨hreset, hempty, hpresent, hcells, hrx, hmarker⟩ := stationClear_damaged (s := u) hs
  obtain ⟨g, r, k, q, a, w, hfinish⟩ := finish_damaged (s := stationDamaged u) rfl
  obtain ⟨a', w', hwake⟩ := linkWake_frame (finish (stationDamaged u))
  rw [hexec, hwake, hfinish]
  exact ⟨_, rfl, hpresent, hreset, hempty, hcells, hrx, hmarker⟩

/-- Settles O10, region by region: what a word's owner does at damage in it. -/
theorem scrubReadActsOnItsWord : Obligations.ScrubReadActsOnItsWord := by
  intro s hgrant haddr hs hcalm a found moved counted u result
  have hmoved : s.store.scrubbed = moved := by
    unfold moved StoreUnit.scrubbed
    rw [nextScrub_eq haddr]
  have hu : (s.count addStoreUncorrectable).setStore StoreUnit.scrubbed = u := by
    unfold u
    rw [← hmoved]
    rfl
  have howner (r : Region) (hd : found = 2) (hr : (regionOf a).1 = r) (hl : live s r = true) :
      result = .next (release ((ownerAction r (s.count addStoreUncorrectable)).setStore StoreUnit.scrubbed)) :=
    scrubRead_live hgrant hd hr hl
  refine ⟨fun hd => ?single, fun hd hn => ?dead, fun n hd hlo hhi => ?slot, fun c p hd hlo hhi hp hsound => ?curve,
    fun i hd hlo hhi hi => ?entry, fun p hp hd hlo hhi hx => ?conf, fun p hp hd hlo hhi hx => ?zone,
    fun p hp w rest hd hlo hhi hfifo hw hx => ?fifo, fun p hp hd hlo hhi hx hlock => ?report, fun p hp hd hlo hhi hx => ?mark,
    fun hd ha hp hset => scrubRead_station hgrant hd ha hp hset⟩
  case single =>
    rw [← hmoved]
    exact scrubRead_single hgrant haddr hs hd
  case dead =>
    obtain ⟨cells, hexec, hwords⟩ := scrubRead_notLive hgrant haddr hs hd hn
    refine ⟨cells, ?_, hwords⟩
    rw [hmoved] at hexec
    exact hexec
  case slot =>
    refine ⟨put s.sched.storeDamaged n true, ?_, fun m => ?_⟩
    · rw [howner _ hd (regionOf_slot hlo hhi) rfl, ← hu]
      rfl
    · rw [put_get]
      by_cases hm : m = n <;> simp [hm]
  case curve =>
    obtain ⟨flat, hfold, hflat⟩ := foldl_damageNaming_sound c allSlots
      (s := { s.count addStoreUncorrectable with gain := { s.gain with
        pieces := put s.gain.pieces c (put s.gain.pieces[c] p false) } }) (by exact hsound)
    refine ⟨put s.gain.pieces c (put s.gain.pieces[c] p false), flat, ?_, fun c' p' => ?_, fun n => ?_⟩
    · have hact : ownerAction (.curve c p) (s.count addStoreUncorrectable) = _ := hfold
      rw [howner _ hd (regionOf_curve hlo hhi) hp, hact, ← hu]
      rfl
    · rw [put_get]
      by_cases hc : c' = c
      · rw [if_pos hc, put_get, hc]
        by_cases hp' : p' = p <;> simp [hp']
      · simp [hc]
    · refine (hflat n).trans ?_
      by_cases hname : (slotAt s n).area = some c
      · exact (if_pos ⟨mem_allSlots n, hname⟩).trans (if_pos hname).symm
      · exact (if_neg fun h => hname h.2).trans (if_neg hname).symm
  case entry =>
    refine ⟨put s.trk.entries i none, ?_, ?_, fun j hj => ?_⟩
    · rw [howner _ hd (regionOf_entry hlo hhi) hi, ← hu]
      rfl
    · rw [put_get, if_pos rfl]
    · rw [put_get, if_neg hj]
  case conf =>
    rw [howner _ hd (regionOf_conf hp hlo hhi) ((holds_iff _ _).mpr hx), ← hu]
    rfl
  case zone =>
    rw [howner _ hd (regionOf_zone hp hlo hhi) ((holds_iff _ _).mpr hx), ← hu]
    rfl
  case fifo =>
    have hheld : holds s.link.fifo p = true := by
      obtain ⟨x, hmem, hplace⟩ := hx
      exact (holds_iff _ _).mpr ⟨x, hfifo ▸ List.mem_cons_of_mem w hmem, hplace⟩
    have hact : ownerAction (.fifo p) (s.count addStoreUncorrectable) =
        State.count addWatchesDropped { s.count addStoreUncorrectable with link := { (s.count addStoreUncorrectable).link with
          fifo := without s.link.fifo p } } := by
      have hhead : (w.place == p) = false := beq_false_of_ne hw
      have hfifo1 : (s.count addStoreUncorrectable).link.fifo = w :: rest := hfifo
      simp only [ownerAction, damageFifo, hfifo1, hhead, Bool.false_and, Bool.false_eq_true, if_false]
      rw [← hfifo1]
      rfl
    rw [howner _ hd (regionOf_fifo hp hlo hhi) hheld, hact, ← hu]
    rfl
  case report =>
    have hact : ownerAction (.report p) (s.count addStoreUncorrectable) =
        State.count addReportsLost { s.count addStoreUncorrectable with
          rep := { s.rep with records := without s.rep.records p } } := by
      have hsent : recordSent (s.count addStoreUncorrectable) p = false := by
        unfold recordSent
        have hlock1 : (s.count addStoreUncorrectable).rep.locked = none := hlock
        rw [hlock1]
        split <;> simp_all
      have hlocked : (if isHeadRecord (s.count addStoreUncorrectable) p then none else s.rep.locked) = s.rep.locked := by
        rw [hlock]
        split <;> rfl
      simp only [ownerAction, damageRecord, hsent, Bool.false_eq_true, if_false, dropRecord]
      exact congrArg (fun l => State.count addReportsLost { s.count addStoreUncorrectable with
        rep := { records := without s.rep.records p, locked := l } }) hlocked
    rw [howner _ hd (regionOf_report hp hlo hhi) ((holds_iff _ _).mpr hx), hact, ← hu]
    rfl
  case mark =>
    rw [howner _ hd (regionOf_mark hlo hhi) ((holds_iff _ _).mpr hx), ← hu]
    rfl

end Sys2Proof.Machine
end

section
/-! PROOFS. The walk of a round (R22, R23, R25): new rounds, turns that fire nothing, and the completion of a shot. -/

namespace Sys2Proof.Machine

/-! The walk. -/

theorem gapAfter_congr {p q : Prop} [Decidable p] [Decidable q] (h : p ↔ q) (g : Option Gap) (pos : Int) :
    gapAfter g p pos = gapAfter g q pos := by
  by_cases hp : p
  · rw [gapAfter_true hp, gapAfter_true (h.mp hp)]
  · rw [gapAfter_false hp, gapAfter_false fun hq => hp (h.mpr hq)]

/-- The slots passed over at the start of a list: those before the first that is not store-damaged (R23). -/
def passed (u : Scheduler) (l : List Slot) : List Slot := l.takeWhile fun n => u.storeDamaged[n]

/-- A skip leaves the Scheduler. -/
theorem skipAll_afterGaps (c : GapCause) (pos : Int) (ns : List Slot) (s : State) :
    skipAll c pos ns s = s.afterGaps (skipAll c pos ns s) := (skipAll_gapWork c pos ns s).eq_afterGaps

theorem skipGap_afterGaps (c : GapCause) (n : Slot) (pos : Int) (s : State) :
    skipGap n c pos s = s.afterGaps (skipGap n c pos s) := (touchGap_gapWork n c pos pos s).eq_afterGaps

/-- The walk over due slots: those passed over are skipped STORE, the first sound one asks for its reads (R22, R23). -/
theorem walkOn_eq (r : Round) (l : List Slot) (s : State) :
    walkOn r l s = { s.afterGaps (skipAll .store r.pos (passed s.sched l) s) with
      sched := { s.sched with
        round := atTurnOf s.sched r l, turn := none
        walk := if (atTurnOf s.sched r l).isSome then .reading else .idle }
      store := { s.store with shotReqs := asked s.store.shotReqs (turnAsked (atTurnOf s.sched r l)) } } := by
  induction l generalizing s with
  | nil => rfl
  | cons n rest ih =>
    by_cases hn : s.sched.storeDamaged[n] = true
    · have hwalk : walkOn r (n :: rest) s = walkOn r rest (skipGap n .store r.pos s) := by rw [walkOn, if_pos hn]
      have hpassed : passed s.sched (n :: rest) = n :: passed s.sched rest := List.takeWhile_cons_of_pos hn
      have hahead : ahead s.sched (n :: rest) = ahead s.sched rest := List.dropWhile_cons_of_pos hn
      have hturn : atTurnOf s.sched r (n :: rest) = atTurnOf s.sched r rest := by rw [atTurnOf, atTurnOf, hahead]
      have hskip : skipAll .store r.pos (n :: passed s.sched rest) s =
          skipAll .store r.pos (passed s.sched rest) (skipGap n .store r.pos s) := rfl
      have hsched : (skipGap n .store r.pos s).sched = s.sched := by rw [skipGap_afterGaps]; rfl
      have hstore : (skipGap n .store r.pos s).store = s.store := by rw [skipGap_afterGaps]; rfl
      have hafter (t : State) : (skipGap n .store r.pos s).afterGaps t = s.afterGaps t := by
        rw [skipGap_afterGaps]
        rfl
      rw [hwalk, ih, hsched, hstore, hafter, hpassed, hturn, hskip]
    · have hahead : ahead s.sched (n :: rest) = n :: rest := List.dropWhile_cons_of_neg hn
      have hpassed : passed s.sched (n :: rest) = [] := List.takeWhile_cons_of_neg hn
      have hturn : atTurnOf s.sched r (n :: rest) = some { r with todo := n :: rest } := by
        rw [atTurnOf, hahead, if_neg (List.cons_ne_nil n rest)]
      rw [hturn, hpassed, walkOn, if_neg hn]
      rfl

/-- The STORE gaps after a walk, and the others (R28). -/
theorem walkOn_get (r : Round) (l : List Slot) (s : State) (n : Slot) (c : GapCause) :
    ((walkOn r l s).coup.gaps[n]).get c =
      if c = .store then gapAfter ((s.coup.gaps[n]).get .store) (n ∈ passed s.sched l) r.pos
      else (s.coup.gaps[n]).get c := by
  have hgaps : (walkOn r l s).coup.gaps = (skipAll .store r.pos (passed s.sched l) s).coup.gaps := by
    rw [walkOn_eq]
    rfl
  rw [hgaps, skipAll_get]

/-- The walk goes on over what is left of the round in flight, or, with none, looks for a pending round (R22, R25). -/
def goOn (left : Option (Round × List Slot)) (s : State) : State :=
  match left with
  | some x => startPending (walkOn x.1 x.2 s)
  | none => startPending (s.setSched fun u => { u with turn := none, walk := .idle })

theorem walkAgain_eq (s : State) : walkAgain s = goOn (s.sched.round.map fun r => (r, r.todo)) s := by
  unfold walkAgain goOn
  cases s.sched.round <;> rfl

/-- The state in which a walk over what is left of the round in flight has ended, before a pending round is looked at. -/
def wentOn (left : Option (Round × List Slot)) (s : State) : State :=
  match left with
  | some x => walkOn x.1 x.2 s
  | none => s.setSched fun u => { u with turn := none, walk := .idle }

theorem goOn_eq_startPending (left : Option (Round × List Slot)) (s : State) : goOn left s = startPending (wentOn left s) := by
  unfold goOn wentOn
  cases left <;> rfl

theorem wentOn_eq {left : Option (Round × List Slot)} {s : State} (h : left = none → s.sched.round = none) :
    wentOn left s = { s.afterGaps (wentOn left s) with
      sched := { s.sched with
        round := inFlight s.sched left, turn := none
        walk := if (inFlight s.sched left).isSome then .reading else .idle }
      store := { s.store with shotReqs := asked s.store.shotReqs (turnAsked (inFlight s.sched left)) } } := by
  cases left with
  | none =>
    have hidle : wentOn none s = s.setSched fun u => { u with round := none, turn := none, walk := .idle } := by
      simp only [wentOn, State.setSched, h rfl]
    rw [hidle]
    rfl
  | some x =>
    have hwent : wentOn (some x) s = walkOn x.1 x.2 s := rfl
    rw [hwent, walkOn_eq]
    rfl

theorem wentOn_get (left : Option (Round × List Slot)) (s : State) (n : Slot) (c : GapCause) :
    ((wentOn left s).coup.gaps[n]).get c =
      if c = .store then
        (match left with
          | some x => gapAfter ((s.coup.gaps[n]).get .store) (n ∈ passed s.sched x.2) x.1.pos
          | none => (s.coup.gaps[n]).get .store)
      else (s.coup.gaps[n]).get c := by
  cases left with
  | none =>
    by_cases hc : c = .store
    · rw [if_pos hc, hc]
      rfl
    · rw [if_neg hc]
      rfl
  | some x => exact walkOn_get x.1 x.2 s n c

/-- How the walk goes on (R22, R23, R25). -/
theorem goOn_eq {left : Option (Round × List Slot)} {s : State} (h : left = none → s.sched.round = none) :
    goOn left s = { s.afterGaps (goOn left s) with
      sched := { s.sched with
        round := (walkOutcome s.sched left).1, pendingRound := (walkOutcome s.sched left).2, turn := none
        walk := if (walkOutcome s.sched left).1.isSome then .reading else .idle }
      store := { s.store with shotReqs := asked s.store.shotReqs (turnAsked (walkOutcome s.sched left).1) } } := by
  have hwent := wentOn_eq h
  by_cases hstay : ((inFlight s.sched left).isSome || s.sched.shot.isSome) = true
  · have hout : walkOutcome s.sched left = (inFlight s.sched left, s.sched.pendingRound) := by
      rw [walkOutcome, if_pos hstay]
    have hgo : goOn left s = wentOn left s := by
      rw [goOn_eq_startPending, startPending]
      have hround : (wentOn left s).sched.round = inFlight s.sched left := by rw [hwent]
      have hshot : (wentOn left s).sched.shot = s.sched.shot := by rw [hwent]
      rw [hround, hshot]
      split
      · rename_i hr hs hp
        rw [hr, hs] at hstay
        cases hstay
      · rfl
    rw [hout, hgo, hwent]
    rfl
  · have hnone : inFlight s.sched left = none ∧ s.sched.shot = none := by
      simpa [Option.isSome_iff_ne_none] using hstay
    obtain ⟨hround, hshot⟩ := hnone
    rw [hround] at hwent
    have hround1 : (wentOn left s).sched.round = none := by rw [hwent]
    have hshot1 : (wentOn left s).sched.shot = none := by rw [hwent]; exact hshot
    have hpending1 : (wentOn left s).sched.pendingRound = s.sched.pendingRound := by rw [hwent]
    cases hp : s.sched.pendingRound with
    | none =>
      have hout : walkOutcome s.sched left = (none, none) := by
        rw [walkOutcome, if_neg hstay, hp]
        rfl
      have hgo : goOn left s = wentOn left s := by
        rw [goOn_eq_startPending, startPending, hround1, hshot1, hpending1, hp]
      rw [hout, hgo, hwent]
      simp only [← hp]
      rfl
    | some p =>
      have hout : walkOutcome s.sched left = (atTurnOf s.sched p p.due, none) := by
        rw [walkOutcome, if_neg hstay, hp]
        rfl
      have hgo : goOn left s = walkOn p p.due ((wentOn left s).setSched fun u => { u with pendingRound := none }) := by
        rw [goOn_eq_startPending, startPending, hround1, hshot1, hpending1, hp]
        rfl
      rw [hout, hgo, walkOn_eq, hwent]
      rfl

/-- The gaps as the walk has gone on (R28). -/
theorem goOn_get {left : Option (Round × List Slot)} {s : State} (h : left = none → s.sched.round = none) (n : Slot)
    (c : GapCause) : ((goOn left s).coup.gaps[n]).get c =
      if c = .store then walkGap s.sched left n ((s.coup.gaps[n]).get .store) else (s.coup.gaps[n]).get c := by
  have hwent := wentOn_eq h
  have hget := wentOn_get left s n
  rw [goOn_eq_startPending, startPending]
  have hround : (wentOn left s).sched.round = inFlight s.sched left := by rw [hwent]
  have hshot : (wentOn left s).sched.shot = s.sched.shot := by rw [hwent]
  have hpending : (wentOn left s).sched.pendingRound = s.sched.pendingRound := by rw [hwent]
  have hdamaged : (wentOn left s).sched.storeDamaged = s.sched.storeDamaged := by rw [hwent]
  rw [hround, hshot, hpending]
  unfold walkGap
  split
  · rename_i p hr hs hp
    have hpassed : passed ((wentOn left s).setSched fun u => { u with pendingRound := none }).sched p.due =
        p.due.takeWhile fun m => s.sched.storeDamaged[m] := by
      unfold passed
      rw [State.setSched, hdamaged]
    rw [startRound, walkOn_get, hpassed, hp, hr, hs]
    have hstore := hget .store
    have hother := hget c
    by_cases hc : c = .store
    · rw [if_pos hc, if_pos hc]
      rw [if_pos rfl] at hstore
      exact congrArg (fun g => gapAfter g _ p.pos) hstore
    · rw [if_neg hc, if_neg hc]
      rw [if_neg hc] at hother
      exact hother
  · rename_i hno
    have hstays : ∀ p, s.sched.pendingRound = some p → ((inFlight s.sched left).isSome || s.sched.shot.isSome) = true := by
      intro p hp
      cases hr : inFlight s.sched left with
      | some r => rfl
      | none =>
        cases hs : s.sched.shot with
        | some sh => rfl
        | none => exact absurd hp (hno p hr hs)
    rw [hget]
    cases hp : s.sched.pendingRound with
    | none => rfl
    | some p =>
      simp only [hstays p hp, if_true]
      rfl

/-! New rounds (R22, R26, R27). -/

/-- The state in which a newly formed round finds no round in flight: the one that was is overrun (R26). -/
def overrun (s : State) : State := if s.sched.round.isSome then endRound true s else s

theorem overrun_eq (s : State) :
    overrun s = { s.afterGaps (roundSkips true s) with
      sched := { s.sched with
        round := none, turn := if s.sched.round.isSome then none else s.sched.turn
        walk := if s.sched.round.isSome then (if s.sched.shot.isSome then .shot else .idle) else s.sched.walk }
      rail := if s.sched.round.isSome then abandonClaim s.rail else s.rail
      store := { s.store with
        shotReqs := if s.sched.round.isSome then turnsGivenUp s.store.shotReqs else s.store.shotReqs } } := by
  cases hround : s.sched.round with
  | none =>
    have hskips : roundSkips true s = s := by rw [roundSkips, hround]
    have hover : overrun s = s := by simp [overrun, hround]
    have hself : s = s.setSched fun u => { u with round := none } := by simp only [State.setSched, ← hround]
    rw [hover, hskips]
    exact hself
  | some r =>
    have hover : overrun s = endRound true s := by simp [overrun, hround]
    rw [hover, endRound_eq]
    rfl

theorem overrun_get (s : State) (n : Slot) (c : GapCause) :
    ((overrun s).coup.gaps[n]).get c = if c = .overrun then roundGap s n else (s.coup.gaps[n]).get c := by
  rw [overrun_eq]
  exact roundSkips_get s n c

/-- A new round behind a shot in flight becomes pending (R22, R27). -/
theorem newRound_pending {s : State} (new : Round) (h : s.sched.shot.isSome = true) :
    newRound new s = { s.afterGaps (pendingSkips true (overrun s)) with
      sched := { (overrun s).sched with pendingRound := some new }
      rail := (overrun s).rail
      store := (overrun s).store } := by
  have hshot : (overrun s).sched.shot.isSome = true := by rw [overrun_eq]; exact h
  have hnew : newRound new s = (dropPending true (overrun s)).setSched fun u => { u with pendingRound := some new } :=
    if_pos hshot
  rw [hnew, dropPending_eq]
  generalize pendingSkips true (overrun s) = t
  rw [overrun_eq]
  rfl

/-- A new round with no shot in flight starts (R22). -/
theorem newRound_starts {s : State} (new : Round) (h : s.sched.shot = none) :
    newRound new s = walkOn new new.due (overrun s) := by
  have hshot : ¬(overrun s).sched.shot.isSome = true := by
    rw [overrun_eq]
    simp [h]
  exact if_neg hshot

/-- Settles O14: what an overrun leaves, and then the walk of the new round or its waiting. -/
theorem newRoundStartsOrOverruns : Obligations.NewRoundStartsOrOverruns := by
  intro s new t abandoned requests
  have hover := overrun_eq s
  have hpendingRound : (overrun s).sched.pendingRound = s.sched.pendingRound := by rw [hover]
  have hdamaged (l : List Slot) : passed (overrun s).sched l = l.takeWhile fun n => s.sched.storeDamaged[n] := by
    unfold passed
    rw [hover]
  have hahead (l : List Slot) : ahead (overrun s).sched l = l.dropWhile fun n => s.sched.storeDamaged[n] := by
    unfold ahead
    rw [hover]
  have hget := overrun_get s
  cases hshot : s.sched.shot with
  | some sh =>
    have ht : t = _ := newRound_pending new (by rw [hshot]; rfl)
    have hgaps (n : Slot) (c : GapCause) : (t.coup.gaps[n]).get c =
        if c = .overrun then overrunGap s n else (s.coup.gaps[n]).get c := by
      have hpend : (t.coup.gaps[n]).get c = ((pendingSkips true (overrun s)).coup.gaps[n]).get c := by rw [ht]; rfl
      rw [hpend, pendingSkips_get, hget, hget, hpendingRound, overrunGap_eq, if_pos rfl]
      by_cases hc : c = .overrun
      · simp only [if_pos hc]
      · simp only [if_neg hc]
    refine ⟨?_, ?_, ?_, ?_, ?_, ?_, fun n c hc => ?_, fun sh' _ => ⟨?_, ?_, ?_, fun hround => ?_, fun hround => ?_,
      fun n => ⟨(hgaps n .overrun).trans (if_pos rfl), (hgaps n .store).trans (if_neg nofun)⟩⟩, nofun⟩
    case refine_7 => exact (hgaps n c).trans (if_neg (by obtain rfl | rfl := hc <;> exact nofun))
    case refine_11 =>
      rw [ht, hover]
      simp only [hround, hshot, Option.isSome_some, if_true]
    case refine_12 =>
      rw [ht, hover]
      simp only [hround, Option.isSome_none, Bool.false_eq_true, if_false]
    case refine_2 =>
      rw [ht, hover]
      exact hshot
    all_goals rw [ht, hover]
    all_goals rfl
  | none =>
    have hstarts : t = _ := (newRound_starts new hshot).trans (walkOn_eq new new.due (overrun s))
    have hwalked (n : Slot) (c : GapCause) : (t.coup.gaps[n]).get c = if c = .store then
        gapAfter (((overrun s).coup.gaps[n]).get .store) (n ∈ passed (overrun s).sched new.due) new.pos
        else ((overrun s).coup.gaps[n]).get c := by
      have ht : t = walkOn new new.due (overrun s) := newRound_starts new hshot
      rw [ht, walkOn_get]
    have hstore (n : Slot) : (t.coup.gaps[n]).get .store =
        gapAfter ((s.coup.gaps[n]).get .store) (n ∈ new.due.takeWhile fun m => s.sched.storeDamaged[m]) new.pos := by
      rw [hwalked, if_pos rfl, hget, if_neg nofun, hdamaged]
    have hother (n : Slot) (c : GapCause) (hc : c ≠ .store) :
        (t.coup.gaps[n]).get c = if c = .overrun then roundGap s n else (s.coup.gaps[n]).get c := by
      rw [hwalked, if_neg hc, hget]
    refine ⟨?_, ?_, ?_, ?_, ?_, ?_, fun n c hc => ?_, nofun,
      fun _ => ⟨?_, ?_, fun n => (hother n .overrun nofun).trans (if_pos rfl), fun before n rest hdue hbefore hn => ?_,
        fun hall => ?_⟩⟩
    case refine_7 =>
      have hnot : c ≠ .store ∧ c ≠ .overrun := by obtain rfl | rfl := hc <;> exact ⟨nofun, nofun⟩
      rw [hother n c hnot.1, if_neg hnot.2]
    case refine_2 =>
      rw [hstarts, hover]
      exact hshot
    case refine_10 =>
      have hpassed : (new.due.takeWhile fun m => s.sched.storeDamaged[m]) = before := by
        rw [hdue, List.takeWhile_append_of_pos hbefore, List.takeWhile_cons_of_neg (by simp [hn]), List.append_nil]
      have hrest : ahead (overrun s).sched new.due = n :: rest := by
        rw [hahead, hdue, List.dropWhile_append_of_pos hbefore, List.dropWhile_cons_of_neg (by simp [hn])]
      have hturn : atTurnOf (overrun s).sched new new.due = some { new with todo := n :: rest } := by
        rw [atTurnOf, hrest, if_neg (List.cons_ne_nil n rest)]
      rw [hpassed] at hstore
      rw [hturn] at hstarts
      refine ⟨?_, ?_, ?_, hstore⟩ <;> rw [hstarts]
      · rfl
      · rw [hover]
        rfl
    case refine_11 =>
      have hpassed : (new.due.takeWhile fun m => s.sched.storeDamaged[m]) = new.due :=
        List.takeWhile_eq_self_iff.mpr fun m hm => hall m hm
      have hrest : ahead (overrun s).sched new.due = [] := by
        rw [hahead]
        exact List.dropWhile_eq_nil_iff.mpr fun m hm => hall m hm
      have hturn : atTurnOf (overrun s).sched new new.due = none := by rw [atTurnOf, hrest, if_pos rfl]
      rw [hpassed] at hstore
      rw [hturn] at hstarts
      refine ⟨?_, ?_, ?_, hstore⟩ <;> rw [hstarts]
      · rfl
      · rw [hover]
        rfl
    all_goals rw [hstarts, hover]
    all_goals rfl

end Sys2Proof.Machine
end

section
/-! PROOFS. Turns that fire nothing (R23, R28) and the completion of a shot (R25). -/

namespace Sys2Proof.Machine

/-! The skip of the slot at its turn. -/

section
variable {s : State} {r : Round} {n : Slot} {rest : List Slot} (hround : s.sched.round = some r) (htodo : r.todo = n :: rest)
include hround htodo

/-- The slot at its turn is skipped, and the walk goes on over the rest (R23). -/
theorem skipTurn_goOn (c : GapCause) : skipTurn c s = goOn (some (r, rest)) (skipGap n c r.pos s) := by
  simp only [skipTurn, hround, htodo, goOn]

theorem skipTurn_eq (c : GapCause) :
    skipTurn c s = { s.afterGaps (skipTurn c s) with
      sched := { s.sched with
        round := (walkOutcome s.sched (some (r, rest))).1, pendingRound := (walkOutcome s.sched (some (r, rest))).2
        turn := none, walk := if (walkOutcome s.sched (some (r, rest))).1.isSome then .reading else .idle }
      store := { s.store with
        shotReqs := asked s.store.shotReqs (turnAsked (walkOutcome s.sched (some (r, rest))).1) } } := by
  have hgo := goOn_eq (left := some (r, rest)) (s := skipGap n c r.pos s) nofun
  rw [← skipTurn_goOn hround htodo] at hgo
  generalize skipTurn c s = t at hgo ⊢
  rw [skipGap_afterGaps] at hgo
  exact hgo

theorem skipTurn_get (c k : GapCause) (m : Slot) :
    ((skipTurn c s).coup.gaps[m]).get k =
      if k = .store then walkGap s.sched (some (r, rest)) m (((skipGap n c r.pos s).coup.gaps[m]).get .store)
      else ((skipGap n c r.pos s).coup.gaps[m]).get k := by
  have hsched : (skipGap n c r.pos s).sched = s.sched := by rw [skipGap_afterGaps]; rfl
  rw [skipTurn_goOn hround htodo, goOn_get (by exact nofun), hsched]

end

/-- A turn skipped STORE or PORT, after reads that may have marked its slot and counted an error. -/
theorem skippedTurn {s d : State} {r : Round} {n : Slot} {rest : List Slot} {c : GapCause} {marks : Vector Bool 12} {k : Nat}
    (hd : d = { s with
      sched := { s.sched with storeDamaged := marks }
      link := { s.link with counts := { s.link.counts with storeUncorrectable := k } } })
    (hcalm : Calm s) (hround : s.sched.round = some r) (htodo : r.todo = n :: rest)
    (hc : (c = .store ∧ marks[n] = true) ∨ (c = .port ∧ marks[n] = false)) :
    ∃ t, release (skipTurn c d) = t ∧ t.sched.shot = s.sched.shot ∧ t.rail = s.rail ∧ t.gain = s.gain ∧
      t.odo = s.odo ∧ t.trk = s.trk ∧ t.store.cells = s.store.cells ∧ t.sched.storeDamaged = marks ∧
      t.link.counts.storeUncorrectable = k ∧
      (let u := { s.sched with storeDamaged := t.sched.storeDamaged }
       walked u (some (r, rest)) t ∧ t.store.shotReqs = asked s.store.shotReqs (turnAsked t.sched.round) ∧
       ∀ m : Slot,
         (t.coup.gaps[m]).get .store =
           walkGap u (some (r, rest)) m
             (gapAfter ((s.coup.gaps[m]).get .store) (m = n ∧ t.sched.storeDamaged[n] = true) r.pos) ∧
         (t.coup.gaps[m]).get .port =
           gapAfter ((s.coup.gaps[m]).get .port) (m = n ∧ t.sched.storeDamaged[n] = false) r.pos ∧
         (t.coup.gaps[m]).get .overrun = (s.coup.gaps[m]).get .overrun ∧
         (t.coup.gaps[m]).get .coupling = (s.coup.gaps[m]).get .coupling) := by
  have hround1 : d.sched.round = some r := by rw [hd]; exact hround
  have hskip := skipTurn_eq hround1 htodo c
  have hget := skipTurn_get hround1 htodo c
  have hgaps (m : Slot) (j : GapCause) : ((skipGap n c r.pos d).coup.gaps[m]).get j =
      if j = c then gapAfter ((s.coup.gaps[m]).get c) (m = n) r.pos else (s.coup.gaps[m]).get j := by
    rw [skipGap_get, hd]
  have hcalm1 : Calm (skipTurn c d) := by
    rw [hskip, hd]
    exact hcalm
  obtain ⟨g, rr, q, x, a, w, hrel⟩ := release_frame hcalm1
  refine ⟨release (skipTurn c d), rfl, ?_⟩
  rw [hrel]
  generalize skipTurn c d = v at hskip hget
  have hcoup (m : Slot) :
      (v.coup.gaps[m]).get .store = walkGap { s.sched with storeDamaged := marks } (some (r, rest)) m
        (gapAfter ((s.coup.gaps[m]).get .store) (m = n ∧ marks[n] = true) r.pos) ∧
      (v.coup.gaps[m]).get .port = gapAfter ((s.coup.gaps[m]).get .port) (m = n ∧ marks[n] = false) r.pos ∧
      (v.coup.gaps[m]).get .overrun = (s.coup.gaps[m]).get .overrun ∧
      (v.coup.gaps[m]).get .coupling = (s.coup.gaps[m]).get .coupling := by
    have hsched : d.sched = { s.sched with storeDamaged := marks } := by rw [hd]
    rw [hget .store, hget .port, hget .overrun, hget .coupling, hgaps, hgaps, hgaps, hgaps, hsched]
    obtain ⟨rfl, hmark⟩ | ⟨rfl, hmark⟩ := hc
    · simp only [reduceCtorEq, if_true, if_false]
      exact ⟨congrArg _ (gapAfter_congr (and_iff_left hmark).symm _ _),
        (gapAfter_false (by simp [hmark]) _ _).symm, trivial, trivial⟩
    · simp only [reduceCtorEq, if_true, if_false]
      exact ⟨congrArg _ (gapAfter_false (by simp [hmark]) _ _).symm,
        gapAfter_congr (and_iff_left hmark).symm _ _, trivial, trivial⟩
  subst hd
  have hmarks : v.sched.storeDamaged = marks := by rw [hskip]
  have hreqs : v.store.shotReqs = asked s.store.shotReqs
      (turnAsked (walkOutcome { s.sched with storeDamaged := marks } (some (r, rest))).1) := by rw [hskip]
  have hwalked : walked { s.sched with storeDamaged := marks } (some (r, rest)) v := by
    rw [hskip]
    exact ⟨rfl, rfl, rfl, rfl⟩
  have hturn := hwalked.1
  refine ⟨?_, ?_, ?_, ?_, ?_, ?_, hmarks, ?_, ?_⟩
  case refine_8 =>
    dsimp only
    rw [hmarks, hturn]
    exact ⟨hwalked, hreqs, hcoup⟩
  all_goals rw [hskip]
  all_goals rfl

/-! Damage met in a slot record (R35, R167). -/

/-- A double error in a word of a slot's record (R35, R167). -/
theorem readDouble_slot {a : Nat} {n : Slot} (s : State) (hlo : 16 + 24 * n.val ≤ a) (hhi : a < 40 + 24 * n.val) :
    readDouble a s = damageSlot n (s.count addStoreUncorrectable) := by
  simp only [readDouble, regionOf_slot hlo hhi, live, if_true, ownerAction]

/-- The reads of a turn whose slot has damage in word 0, or in word 1 behind a sound word 0 (log 8). -/
theorem readSlot_turn_damaged {n : Slot} {s : State} (h : bitCount 39 (s.word (slotBase n + 0)).changed = 2 ∨
      ((s.word (slotBase n + 0)).changed = 0 ∧ bitCount 39 (s.word (slotBase n + 1)).changed = 2)) :
    readSlot n [0, 1] s = (damageSlot n (s.count addStoreUncorrectable), none) := by
  have hbase : slotBase n = 16 + 24 * n.val := rfl
  have hdouble (k : Nat) (hk : k < 24) : readDouble (slotBase n + k) s = damageSlot n (s.count addStoreUncorrectable) :=
    readDouble_slot s (by omega) (by omega)
  obtain h0 | ⟨h0, h1⟩ := h
  · simp only [readSlot, List.map_cons, List.map_nil, readWords, readWord_double h0, hdouble 0 (by decide)]
  · simp only [readSlot, List.map_cons, List.map_nil, readWords, readWord_sound h0, readWord_double h1,
      hdouble 1 (by decide)]

/-- Settles O15: the reads first, then the skip of the slot and the walk. -/
theorem turnSkipsSlot : Obligations.TurnSkipsSlot := by
  intro s s1 n isLive htake hcalm word sound damage store port
  obtain ⟨-, left, -, hs1⟩ := takeShot_spec htake
  refine ⟨fun hdead hsound => ?_, fun r rest hlive hround htodo hcase => ?_⟩
  · have hsound1 : SoundSlot s1 n [0, 1] := by subst hs1; exact hsound
    simp only [exec, execTurnReads, htake, hdead, readSlot_sound hsound1, Bool.false_eq_true, if_false]
  · have hcalm1 : Calm s1 := by subst hs1; exact hcalm
    have hround1 : s1.sched.round = some r := by subst hs1; exact hround
    have hzero : bitCount 39 (0 : BitVec 39) = 0 := by decide
    have hsoundWord (hsound : sound) (k : Nat) (hk : k ∈ [0, 1]) : (word k).changed = 0 :=
      hsound _ (List.mem_map.mpr ⟨k, hk, rfl⟩)
    have hundamaged (hsound : sound) : ¬damage := by
      have h0 := hsoundWord hsound 0 (by decide)
      have h1 := hsoundWord hsound 1 (by decide)
      rintro (hd | ⟨-, hd⟩)
      · rw [h0, hzero] at hd
        cases hd
      · rw [h1, hzero] at hd
        cases hd
    have hread (d : Option SlotRecord) (u : State) (h : readSlot n [0, 1] s1 = (u, d)) :
        exec .turnReads s = .next (release (takeTurn n d u)) := by
      simp only [exec, execTurnReads, htake, h, hlive, if_true]
    by_cases hdamage : damage
    · have hread1 : readSlot n [0, 1] s1 = (damageSlot n (s1.count addStoreUncorrectable), none) :=
        readSlot_turn_damaged (by subst hs1; exact hdamage)
      have hmark : (put s1.sched.storeDamaged n true)[n] = true := by rw [put_get, if_pos rfl]
      obtain ⟨t, hrel, hshot, hrail, hgain, hodo, htrk, hcells, hmarks, hcount, hrest⟩ :=
        skippedTurn (c := .store) (d := damageSlot n (s1.count addStoreUncorrectable)) rfl hcalm1 hround1 htodo (.inl ⟨rfl, hmark⟩)
      refine ⟨t, (hread _ _ hread1).trans (congrArg _ hrel), ?_⟩
      subst hs1
      refine ⟨hshot, hrail, hgain, hodo, htrk, hcells, fun _ => ?_, fun hport => absurd hdamage (hundamaged hport.1),
        fun m hm => ?_, fun _ => hcount, hrest⟩
      · rw [hmarks]
        exact hmark
      · rw [hmarks, put_get, if_neg hm]
        rfl
    · have hsound : sound := by
        obtain (h | h) | h := hcase
        · exact h.1
        · exact absurd h hdamage
        · exact h.1
      have h0 : 0 ∈ [0, 1] := by decide
      have hread1 := readSlot_sound (n := n) (ks := [0, 1]) (s := s1) (by subst hs1; exact hsound)
      have hcause : ∃ c, takeTurn n (some (slotRead n [0, 1] s1)) s1 = skipTurn c s1 ∧
          ((c = .store ∧ s1.sched.storeDamaged[n] = true) ∨ (c = .port ∧ s1.sched.storeDamaged[n] = false)) := by
        obtain (h | h) | h := hcase
        · have hmark : s1.sched.storeDamaged[n] = true := by subst hs1; exact h.2
          exact ⟨.store, by simp only [takeTurn, hmark, if_true], .inl ⟨rfl, hmark⟩⟩
        · exact absurd h hdamage
        · have hmark : s1.sched.storeDamaged[n] = false := by subst hs1; exact h.2.1
          have hport : s1.coup.portFault[(slotAt s1 n).txPort] = true := by subst hs1; exact h.2.2
          exact ⟨.port, by simp only [takeTurn, hmark, slotRead_txPort h0, hport, if_true, Bool.false_eq_true, if_false],
            .inr ⟨rfl, hmark⟩⟩
      obtain ⟨c, hskip, hc⟩ := hcause
      obtain ⟨t, hrel, hshot, hrail, hgain, hodo, htrk, hcells, hmarks, hcount, hrest⟩ :=
        skippedTurn (d := s1) (marks := s1.sched.storeDamaged) (k := s1.link.counts.storeUncorrectable) rfl hcalm1 hround1 htodo hc
      refine ⟨t, (hread _ _ hread1).trans (congrArg _ (by rw [hskip]; exact hrel)), ?_⟩
      subst hs1
      refine ⟨hshot, hrail, hgain, hodo, htrk, hcells, fun hstore => ?_, fun hport => ?_, fun m hm => ?_,
        fun hd => absurd hd hdamage, hrest⟩
      · rw [hmarks]
        exact hstore.elim (·.2) fun hd => absurd hd hdamage
      · rw [hmarks]
        exact hport.2.1
      · rw [hmarks]

/-! The completion of a shot (R25). -/

/-- The rail unit after a completion: the line released when the shot held it, and read afresh (R39, R45, R47, R49). -/
def releasedRail (u : RailUnit) : RailUnit :=
  if u.claim = .holding then
    { u with
      claim := Claim.idle, slot := none, delay := none, drive := false, stuck := u.others && u.stuck
      stuckTimer := if u.others then (if u.stuck then u.stuckTimer else some 0) else none } else u

theorem releasedRail_eq (u : RailUnit) : (if u.claim = .holding then ownRelease u else u) = releasedRail u := by
  unfold releasedRail ownRelease startStuck
  cases u.others <;> rfl

/-- The transmit check acts on its port alone (R100). -/
theorem transmitCheck_spec (p : Port) (ok : Bool) (s : State) :
    ∃ k f, transmitCheck p ok s = { s with coup := { s.coup with noTransmit := k, portFault := f } } ∧
      (s.coup.portFault[p] = true → k = s.coup.noTransmit ∧ f = s.coup.portFault) ∧
      (s.coup.portFault[p] = false →
        k[p] = min 3 (if ok then 0 else s.coup.noTransmit[p] + 1) ∧
        f[p] = decide (3 ≤ if ok then 0 else s.coup.noTransmit[p] + 1)) ∧
      ∀ q : Port, q ≠ p → k[q] = s.coup.noTransmit[q] ∧ f[q] = s.coup.portFault[q] := by
  cases hfault : s.coup.portFault[p] with
  | true =>
    refine ⟨s.coup.noTransmit, s.coup.portFault, if_pos hfault, fun _ => ⟨rfl, rfl⟩, nofun, fun q _ => ⟨rfl, rfl⟩⟩
  | false =>
    cases ok with
    | true =>
      refine ⟨put s.coup.noTransmit p 0, s.coup.portFault, ?_, nofun, fun _ => ⟨?_, ?_⟩, fun q hq => ⟨?_, rfl⟩⟩
      · simp only [transmitCheck, hfault, Bool.false_eq_true, if_false, if_true]
      · rw [put_get, if_pos rfl]
        rfl
      · exact hfault
      · rw [put_get, if_neg hq]
    | false =>
      refine ⟨put s.coup.noTransmit p (min 3 (s.coup.noTransmit[p] + 1)),
        if 3 ≤ s.coup.noTransmit[p] + 1 then put s.coup.portFault p true else s.coup.portFault, ?_, nofun,
        fun _ => ⟨?_, ?_⟩, fun q hq => ⟨?_, ?_⟩⟩
      · simp only [transmitCheck, hfault, Bool.false_eq_true, if_false]
      · rw [put_get, if_pos rfl]
        rfl
      · by_cases hthree : 3 ≤ s.coup.noTransmit[p] + 1
        · rw [if_pos hthree, put_get, if_pos rfl]
          exact (decide_eq_true hthree).symm
        · rw [if_neg hthree, hfault]
          exact (decide_eq_false hthree).symm
      · rw [put_get, if_neg hq]
      · split
        · rw [put_get, if_neg hq]
        · rfl

/-- What stands of the monitor's port faults and of the settled marks once a completion's checks have been taken, and none are
for a void shot (R30, R32, R100). -/
def Checked (s : State) (sh : Shot) (ok : Bool) (k : Vector Nat 8) (f : Vector Bool 8) (v : Vector Bool 12) : Prop :=
  (sh.void = true → k = s.coup.noTransmit ∧ f = s.coup.portFault ∧ v = s.sched.settled) ∧
  (sh.void = false →
    (s.coup.portFault[sh.turn.txPort] = true → k = s.coup.noTransmit ∧ f = s.coup.portFault) ∧
    (s.coup.portFault[sh.turn.txPort] = false →
      k[sh.turn.txPort] = min 3 (if ok then 0 else s.coup.noTransmit[sh.turn.txPort] + 1) ∧
      f[sh.turn.txPort] = decide (3 ≤ if ok then 0 else s.coup.noTransmit[sh.turn.txPort] + 1)) ∧
    (∀ q : Port, q ≠ sh.turn.txPort → k[q] = s.coup.noTransmit[q] ∧ f[q] = s.coup.portFault[q]) ∧
    ∀ n : Slot, v[n] = (s.sched.settled[n] || (sh.settle && n == sh.slot)))

/-- The state of a completion before the walk goes on: the line released, nothing listened to, the checks taken, no shot. -/
def shotEnded (s : State) (k : Vector Nat 8) (f : Vector Bool 8) (v : Vector Bool 12) : State :=
  { s with
    rail := releasedRail s.rail
    gain := { s.gain with listening := none }
    coup := { s.coup with noTransmit := k, portFault := f }
    sched := { s.sched with shot := none, settled := v } }

/-- The completion's state once its checks have been taken. -/
def checkedShot (sh : Shot) (ok : Bool) (s : State) : State :=
  let s1 := { s with rail := if s.rail.claim = .holding then ownRelease s.rail else s.rail,
                     gain := { s.gain with listening := none } }
  if sh.void then s1 else completeChecks sh ok s1

theorem checkedShot_spec (sh : Shot) (ok : Bool) (s : State) :
    ∃ k f v, (checkedShot sh ok s).setSched (fun u => { u with shot := none }) = shotEnded s k f v ∧
      Checked s sh ok k f v := by
  unfold checkedShot
  rw [releasedRail_eq]
  cases hvoid : sh.void with
  | true =>
    exact ⟨s.coup.noTransmit, s.coup.portFault, s.sched.settled, rfl,
      ⟨fun _ => ⟨rfl, rfl, rfl⟩, fun h => absurd (hvoid.symm.trans h) (by decide)⟩⟩
  | false =>
    obtain ⟨k, f, hcheck, hfault, hfree, hother⟩ := transmitCheck_spec sh.turn.txPort ok
      { s with rail := releasedRail s.rail, gain := { s.gain with listening := none } }
    refine ⟨k, f, if sh.settle then put s.sched.settled sh.slot true else s.sched.settled, ?_,
      ⟨fun h => absurd (hvoid.symm.trans h) (by decide), fun _ => ⟨hfault, hfree, hother, fun n => ?_⟩⟩⟩
    · simp only [Bool.false_eq_true, if_false, completeChecks, hcheck]
      cases sh.settle <;> rfl
    · cases sh.settle with
      | false => simp
      | true =>
        rw [if_pos rfl, put_get]
        by_cases hn : n = sh.slot <;> simp [hn]

/-- Requests asked together, and then one more with them. -/
theorem asked_append (l : List (List ShotReq)) (rs : List ShotReq) (r : ShotReq) :
    (asked l rs).take l.length ++ [((asked l rs).drop l.length).flatten ++ [r]] = asked l (rs ++ [r]) := by
  cases rs with
  | nil => simp [asked]
  | cons x rest => simp [asked]

/-- What a completion delivers, after the walk has gone on (R57). -/
theorem deliverRecord_spec {rec : ShotRecord} {l : List (List ShotReq)} {rs : List ShotReq} {w : State}
    (hw : w.store.shotReqs = asked l rs) :
    ∃ g, deliverRecord l.length rec w = { w.afterGaps (deliverRecord l.length rec w) with
        gain := g
        store := { w.store with shotReqs := asked l (rs ++ if w.gain.processing = none then [.processing] else []) } } ∧
      (w.gain.processing = none →
        g = { w.gain with processing := some rec, takenFlat := decide (w.gain.flat[rec.slot] ≠ .clear) }) ∧
      (w.gain.processing.isSome = true → w.gain.queue.length < 4 → g = { w.gain with queue := w.gain.queue ++ [rec] }) ∧
      (w.gain.processing.isSome = true → 4 ≤ w.gain.queue.length → g = w.gain) ∧
      ∀ (n : Slot) (c : GapCause), ((deliverRecord l.length rec w).coup.gaps[n]).get c =
        if c = .overrun then gapAfter ((w.coup.gaps[n]).get .overrun)
          (n = rec.slot ∧ w.gain.processing.isSome = true ∧ 4 ≤ w.gain.queue.length) rec.firePos
        else (w.coup.gaps[n]).get c := by
  have hself (n : Slot) (c : GapCause) (p : Prop) [Decidable p] (hp : ¬p) : (w.coup.gaps[n]).get c =
      if c = .overrun then gapAfter ((w.coup.gaps[n]).get .overrun) p rec.firePos else (w.coup.gaps[n]).get c := by
    rw [gapAfter_false hp]
    by_cases hc : c = .overrun
    · rw [if_pos hc, hc]
    · rw [if_neg hc]
  cases hproc : w.gain.processing with
  | none =>
    have hreqs : w.store.shotReqs.take l.length ++ [(w.store.shotReqs.drop l.length).flatten ++ [.processing]] =
        asked l (rs ++ [.processing]) := by rw [hw, asked_append]
    have hdeliver : deliverRecord l.length rec w = { w with
        gain := { w.gain with processing := some rec, takenFlat := decide (w.gain.flat[rec.slot] ≠ .clear) }
        store := { w.store with shotReqs := asked l (rs ++ [.processing]) } } := by
      simp only [deliverRecord, hproc, raiseWith, hreqs]
    rw [hdeliver]
    exact ⟨_, rfl, fun _ => rfl, nofun, nofun, fun n c => hself n c _ (by simp)⟩
  | some p =>
    have hreqs : w.store.shotReqs = asked l (rs ++ []) := by rw [hw, List.append_nil]
    by_cases hroom : w.gain.queue.length < 4
    · have hdeliver : deliverRecord l.length rec w = { w with gain := { w.gain with queue := w.gain.queue ++ [rec] } } := by
        simp only [deliverRecord, hproc, if_pos hroom]
      rw [hdeliver]
      refine ⟨{ w.gain with queue := w.gain.queue ++ [rec] }, ?_, nofun, fun _ _ => rfl,
        fun _ h => absurd hroom (Nat.not_lt.mpr h), fun n c => hself n c _ (by omega)⟩
      simp only [reduceCtorEq, if_false, ← hreqs]
      rfl
    · have hdeliver : deliverRecord l.length rec w = skipGap rec.slot .overrun rec.firePos w := by
        simp only [deliverRecord, hproc, if_neg hroom]
      rw [hdeliver]
      refine ⟨w.gain, ?_, nofun, fun _ h => absurd h hroom, fun _ _ => rfl, fun n c => ?_⟩
      · simp only [reduceCtorEq, if_false, ← hreqs]
        exact skipGap_afterGaps _ _ _ w
      · rw [skipGap_get]
        have hfull : 4 ≤ w.gain.queue.length := Nat.not_lt.mp hroom
        by_cases hc : c = .overrun
        · rw [if_pos hc, if_pos hc]
          exact gapAfter_congr (by simp [hfull]) _ _
        · rw [if_neg hc, if_neg hc]

/-- Settles O22: the checks, then the walk, then the record. -/
theorem completionDeliversRecord : Obligations.CompletionDeliversRecord := by
  intro s sh ok samples hshot released port count floor heard record unheard
  let left := s.sched.round.map fun r => (r, r.todo)
  obtain ⟨k, f, v, hended, hchecked⟩ := checkedShot_spec sh ok s
  have hreqs0 : (checkedShot sh ok s).store.shotReqs = s.store.shotReqs := by
    have hstore := congrArg (fun u : State => u.store.shotReqs) hended
    exact hstore
  have hcomplete : completeShot sh ok samples s =
      if sh.void then goOn left (shotEnded s k f v)
      else deliverRecord s.store.shotReqs.length record (goOn left (shotEnded s k f v)) := by
    have hparts : completeShot sh ok samples s =
        if sh.void then walkAgain ((checkedShot sh ok s).setSched fun u => { u with shot := none })
        else deliverRecord (checkedShot sh ok s).store.shotReqs.length record
          (walkAgain ((checkedShot sh ok s).setSched fun u => { u with shot := none })) := rfl
    have hwalk : walkAgain (shotEnded s k f v) = goOn left (shotEnded s k f v) := walkAgain_eq _
    rw [hparts, hended, hreqs0, hwalk]
  have hexec : exec (.shotCompletion ok samples) s = .next (arbitrate (completeShot sh ok samples s)) := by
    simp only [exec, execShotCompletion, hshot]
  have hnone : left = none → (shotEnded s k f v).sched.round = none := fun h => Option.map_eq_none_iff.mp h
  have hgo := goOn_eq hnone
  have hget := goOn_get hnone
  obtain ⟨hwithout, hwith⟩ := hchecked
  refine ⟨fun hvoid hround hpending => ?_, ?_⟩
  · obtain ⟨rfl, rfl, rfl⟩ := hwithout hvoid
    have hleft : left = none := by simp [left, hround]
    have hstop : goOn left (shotEnded s s.coup.noTransmit s.coup.portFault s.sched.settled) =
        (shotEnded s s.coup.noTransmit s.coup.portFault s.sched.settled).setSched
          fun u => { u with turn := none, walk := .idle } := by
      rw [hleft, goOn, startPending]
      simp [State.setSched, shotEnded, hround, hpending]
    rw [hexec, hcomplete, if_pos hvoid, hstop]
    rfl
  · obtain ⟨z, g, hz, hframe, hgvoid, hgain, hgaps⟩ : ∃ z g, completeShot sh ok samples s = z ∧
        z = { (shotEnded s k f v).afterGaps z with
          gain := g
          sched := { (shotEnded s k f v).sched with
            round := (walkOutcome { s.sched with shot := none } left).1
            pendingRound := (walkOutcome { s.sched with shot := none } left).2, turn := none
            walk := if (walkOutcome { s.sched with shot := none } left).1.isSome then .reading else .idle }
          store := { s.store with
            shotReqs := (asked s.store.shotReqs (turnAsked (walkOutcome { s.sched with shot := none } left).1 ++
              if sh.void = false ∧ s.gain.processing = none then [.processing] else [])) } } ∧
        (sh.void = true → g = unheard) ∧
        (sh.void = false →
          (s.gain.processing = none →
            g = { unheard with processing := some record, takenFlat := decide (s.gain.flat[sh.slot] ≠ .clear) }) ∧
          (s.gain.processing.isSome = true → s.gain.queue.length < 4 → g = { unheard with queue := s.gain.queue ++ [record] }) ∧
          (s.gain.processing.isSome = true → 4 ≤ s.gain.queue.length → g = unheard)) ∧
        ∀ (n : Slot) (c : GapCause), (z.coup.gaps[n]).get c =
          if c = .overrun then gapAfter (((goOn left (shotEnded s k f v)).coup.gaps[n]).get .overrun)
            (n = sh.slot ∧ sh.void = false ∧ s.gain.processing.isSome = true ∧ 4 ≤ s.gain.queue.length) sh.firePos
          else ((goOn left (shotEnded s k f v)).coup.gaps[n]).get c := by
      generalize hw : goOn left (shotEnded s k f v) = w at hgo hcomplete ⊢
      by_cases hvoid : sh.void = true
      · refine ⟨w, unheard, by rw [hcomplete, if_pos hvoid], ?_, fun _ => rfl, fun h => absurd (hvoid.symm.trans h) (by decide),
          fun n c => ?_⟩
        · rw [hvoid]
          simp only [reduceCtorEq, false_and, if_false, List.append_nil]
          exact hgo
        · rw [gapAfter_false (by simp [hvoid])]
          by_cases hc : c = .overrun
          · rw [if_pos hc, hc]
          · rw [if_neg hc]
      · have hfalse : sh.void = false := Bool.eq_false_iff.mpr hvoid
        have hreqs : w.store.shotReqs =
            asked s.store.shotReqs (turnAsked (walkOutcome { s.sched with shot := none } left).1) := by rw [hgo]; rfl
        have hwgain : w.gain = unheard := by rw [hgo]; rfl
        obtain ⟨g, hdeliver, hnone1, hroom1, hfull1, hgaps1⟩ := deliverRecord_spec (rec := record) hreqs
        rw [hwgain] at hnone1 hroom1 hfull1 hgaps1 hdeliver
        refine ⟨_, g, (hcomplete.trans (if_neg hvoid)), ?_, fun h => absurd h hvoid, fun _ => ⟨hnone1, hroom1, hfull1⟩,
          fun n c => ?_⟩
        · generalize deliverRecord s.store.shotReqs.length record w = z at hdeliver ⊢
          rw [hgo] at hdeliver
          simp only [hfalse, true_and]
          exact hdeliver
        · rw [hgaps1]
          by_cases hc : c = .overrun
          · rw [if_pos hc, if_pos hc]
            exact gapAfter_congr (by rw [hfalse]; simp [record, unheard]) _ _
          · rw [if_neg hc, if_neg hc]
    obtain ⟨gr, rr, kk, q, harb⟩ := arbitrate_frame z
    rw [hexec, hz, harb]
    have hall (n : Slot) :
        (z.coup.gaps[n]).get .store = walkGap { s.sched with shot := none } left n ((s.coup.gaps[n]).get .store) ∧
        (z.coup.gaps[n]).get .overrun = gapAfter ((s.coup.gaps[n]).get .overrun)
          (n = sh.slot ∧ sh.void = false ∧ s.gain.processing.isSome = true ∧ 4 ≤ s.gain.queue.length) sh.firePos ∧
        (z.coup.gaps[n]).get .port = (s.coup.gaps[n]).get .port ∧
        (z.coup.gaps[n]).get .coupling = (s.coup.gaps[n]).get .coupling := by
      rw [hgaps, hgaps, hgaps, hgaps, hget, hget, hget, hget]
      simp only [reduceCtorEq, if_true, if_false]
      exact ⟨rfl, rfl, rfl, rfl⟩
    have hzgain : z.gain = g := by rw [hframe]
    have hsettled : z.sched.settled = v := by rw [hframe]; rfl
    have htransmit : z.coup.noTransmit = k ∧ z.coup.portFault = f := by rw [hframe]; exact ⟨rfl, rfl⟩
    obtain ⟨htransmit, hfault⟩ := htransmit
    refine ⟨_, rfl, ⟨⟨?_, ?_, ?_, ?_⟩, ?_, ?_, hall⟩, ?_, ?_, ?_, ?_, ?_, ?_, ?_, ?_, ?_, ?_, ?_, ?_, ?_, ?_, ?_,
      fun hvoid => ?_, fun hvoid => ?_⟩
    case refine_22 =>
      obtain ⟨hk, hf, hv⟩ := hwithout hvoid
      exact ⟨hzgain.trans (hgvoid hvoid), hsettled.trans hv, htransmit.trans hk, hfault.trans hf⟩
    case refine_23 =>
      obtain ⟨hnone1, hroom1, hfull1⟩ := hgain hvoid
      rw [← hzgain] at hnone1 hroom1 hfull1
      rw [← htransmit, ← hfault, ← hsettled] at hwith
      obtain ⟨hstays, hcounts, hothers, hmarks⟩ := hwith hvoid
      exact ⟨hnone1, hroom1, hfull1, hstays, hcounts, hothers, hmarks⟩
    all_goals rw [hframe]
    all_goals rfl

end Sys2Proof.Machine
end

section
/-! PROOFS. Gain (04), gates and location (05), the entries of the tracker and their evaluation (07), as functions of what they are given. -/

namespace Sys2Proof.Machine

/-! The curve gain (R63). -/

/-- The points before the last one not after a time do not count. -/
theorem curveGain_append {before rest : List (Nat × Int)} {q : Nat × Int} {time : Nat}
    (hrise : (before ++ q :: rest).Pairwise fun x y => x.1 < y.1) (hq : q.1 ≤ time) :
    curveGain (before ++ q :: rest) time = curveGain (q :: rest) time := by
  induction before with
  | nil => rfl
  | cons a b ih =>
    rw [List.cons_append, List.pairwise_cons] at hrise
    obtain ⟨ha, hrise⟩ := hrise
    have haq : a.1 < q.1 := ha q (by simp)
    obtain ⟨x, xs, hx, hxq⟩ : ∃ x xs, b ++ q :: rest = x :: xs ∧ x.1 ≤ q.1 := by
      cases b with
      | nil => exact ⟨q, rest, rfl, le_rfl⟩
      | cons x xs =>
        rw [List.cons_append, List.pairwise_cons] at hrise
        exact ⟨x, xs ++ q :: rest, rfl, (hrise.1 q (by simp)).le⟩
    rw [List.cons_append, hx, curveGain, if_neg (by omega), if_neg (by omega), ← hx, ih hrise]

/-- The gain up to the first point is that of the first point. -/
theorem curveGain_first (p : Nat × Int) (rest : List (Nat × Int)) {time : Nat} (h : time ≤ p.1) :
    curveGain (p :: rest) time = p.2 := by
  cases rest with
  | nil => rfl
  | cons q more => rw [curveGain, if_pos h]

/-- The gain within a segment (R64). -/
theorem curveGain_segment (p q : Nat × Int) (rest : List (Nat × Int)) {time : Nat} (hp : p.1 ≤ time) (hq : time < q.1) :
    curveGain (p :: q :: rest) time = segmentGain p q time := by
  obtain hlt | rfl := hp.lt_or_eq
  · rw [curveGain, if_neg (Nat.not_le.mpr hlt), if_pos hq]
  · rw [curveGain_first p _ le_rfl]
    simp [segmentGain]

/-! The curve of a shot (R59, R62, R70). -/

/-- The reads of words end at the first that has two changed bits. -/
theorem readWords_damaged {before after : List Nat} {a : Nat} {s : State} (hsound : Sound s before)
    (hdouble : bitCount 39 (s.word a).changed = 2) : readWords (before ++ a :: after) s = (readDouble a s, none) := by
  induction before with
  | nil => simp only [List.nil_append, readWords, readWord_double hdouble]
  | cons b rest ih =>
    have hb := readWord_sound (hsound b List.mem_cons_self)
    have hrest := ih fun x hx => hsound x (List.mem_cons_of_mem b hx)
    simp only [List.cons_append, readWords, hb, hrest]

/-- The numbers below a bound, split at one of them. -/
theorem range_split {p n : Nat} (h : p < n) : ∃ after, List.range n = List.range p ++ p :: after := by
  have hdrop : (List.range n).drop p = p :: (List.range n).drop (p + 1) := by
    rw [List.drop_eq_getElem_cons (by simpa using h), List.getElem_range]
  refine ⟨(List.range n).drop (p + 1), ?_⟩
  rw [← hdrop]
  nth_rewrite 1 [← List.take_append_drop p (List.range n)]
  rw [List.take_range, Nat.min_eq_left h.le]

theorem areaComplete_eq (s : State) (a : Area) : areaComplete s.gain.pieces[a] = written s a := by
  have hall (v : Vector Bool 4) : areaComplete v = true ↔ ∀ p : Piece, v[p] = true := by
    simp [areaComplete, allPieces, Fin.forall_fin_succ]
  rw [Bool.eq_iff_iff, hall, written, decide_eq_true_iff]

theorem readCurve_sound {a : Area} {s : State} (h : Sound s ((List.range 16).map (pointAddr a))) :
    readCurve a s = (s, some (curveAt s a)) := by
  simp only [readCurve, readWords_sound h, List.map_map]
  rfl

theorem readCurve_damaged {a : Area} {s : State} {p : Nat} (hp : p < 16)
    (hdouble : bitCount 39 (s.word (pointAddr a p)).changed = 2) (hsound : Sound s ((List.range p).map (pointAddr a))) :
    readCurve a s = (readDouble (pointAddr a p) s, none) := by
  obtain ⟨after, hsplit⟩ := range_split hp
  rw [readCurve, hsplit, List.map_append, List.map_cons, readWords_damaged hsound hdouble]

/-- The curve of a shot whose mark as taken is clear and whose slot names an area (R59, R62, R70). -/
theorem shotCurve_some (a : Area) (s : State) :
    (written s a = false → shotCurve false (some a) s = (s, [], true)) ∧
    (written s a = true → Sound s ((List.range 16).map (pointAddr a)) →
      shotCurve false (some a) s = (s, curveAt s a, false)) ∧
    ∀ p < 16, written s a = true → bitCount 39 (s.word (pointAddr a p)).changed = 2 →
      Sound s ((List.range p).map (pointAddr a)) →
      shotCurve false (some a) s = (readDouble (pointAddr a p) s, [], true) := by
  refine ⟨fun hw => ?_, fun hw hsound => ?_, fun p hp hw hdouble hsound => ?_⟩
  · simp only [shotCurve, areaComplete_eq, hw, Bool.false_eq_true, if_false]
  · simp only [shotCurve, areaComplete_eq, hw, Bool.false_eq_true, if_false, if_true, readCurve_sound hsound]
  · simp only [shotCurve, areaComplete_eq, hw, Bool.false_eq_true, if_false, if_true, readCurve_damaged hp hdouble hsound]

/-- Settles O25: the gain by where the time lies, the curve by what the reads give, the peak by the clamp of its total gain. -/
theorem gainedPeakRule : Obligations.GainedPeakRule := by
  refine ⟨fun pts time hrise => ⟨fun p rest h ht => ?_, fun before p h ht => ?_, fun p hp => ?_, fun before p q after h hp hq => ?_⟩,
    fun _ => rfl, fun s area => ⟨rfl, rfl, fun a ha => ?_⟩, fun base boost flat watch curve p => ?_⟩
  · rw [h, curveGain_first p rest ht]
  · subst h
    rw [curveGain_append hrise ht]
    rfl
  · obtain ⟨before, after, rfl⟩ := List.append_of_mem hp
    rw [curveGain_append hrise le_rfl, curveGain_first p after le_rfl]
  · subst h
    rw [curveGain_append hrise hp, curveGain_segment p q after hp hq]
  · subst ha
    obtain ⟨hnone, hsound, hdamaged⟩ := shotCurve_some a s
    exact ⟨hnone, hsound, fun p hp hw hd hs => ⟨_, hdamaged p hp hw hd hs⟩⟩
  · intro g sum table exact_
    have htotal : (g.totalGain : Int) = max 0 (min 120 sum) := by
      have hdef : g.totalGain = (max 0 (min 120 sum)).toNat := rfl
      rw [hdef]
      omega
    refine ⟨rfl, rfl, htotal, ?_, ?_, ?_, rfl, rfl⟩
    · have hdef : g.gainClamped = (decide (sum < 0) || decide (120 < sum)) := rfl
      rw [hdef, htotal, Bool.or_eq_true, decide_eq_true_iff, decide_eq_true_iff]
      omega
    · exact decide_eq_true_iff
    · have hdef : g.amp = min 1000 exact_ := rfl
      rw [hdef]
      split <;> omega

/-! Location (R83 to R89). -/

/-- A flag of the peak at a result's place (R84). -/
theorem peakFlag_iff (peaks : List GainedPeak) (place : Option Nat) (f : GainedPeak → Bool) :
    (((place.bind fun k => peaks[k - 1]?).map f).getD false = true) ↔
      ∃ k p, place = some k ∧ peaks[k - 1]? = some p ∧ f p = true := by
  cases place with
  | none => simp
  | some k => cases hp : peaks[k - 1]? <;> simp [hp]

/-- The position-limit flag of a hit (R88). -/
theorem hitLimit_iff (x : Int) : (!inPosRange x) = true ↔ clampPos x ≠ x := (posLimit_iff x).trans ne_comm

/-- Settles O27, by the status of the result. -/
theorem hitsAreLocated : Obligations.HitsAreLocated := by
  refine ⟨fun l peaks r => rfl, fun l peaks g r => ⟨fun hfound hloss => ?_, ?_⟩⟩
  · cases hr : r.status <;> simp_all [hitOf]
  · intro hhit path off exact_ peak
    obtain hfound | hloss := hhit
    · have hexact : exact_ = l.indexPoint + l.record.look.sign * (off : Int) := by
        unfold exact_
        rw [hfound]
        cases l.record.look with
        | plus => simp [Dir.sign]
        | minus => simp [Dir.sign, sub_eq_add_neg]
      have hhit : hitOf l g peaks r = [reflectorHit l g peaks (r.time.getD 0) (r.amp.getD 0) r.place] := by
        simp only [hitOf, hfound]
      have hpos : (reflectorHit l g peaks (r.time.getD 0) (r.amp.getD 0) r.place).pos = clampPos exact_ := by rw [hexact]; rfl
      have hlimit : (reflectorHit l g peaks (r.time.getD 0) (r.amp.getD 0) r.place).flags.posLimit = !inPosRange exact_ := by
        rw [hexact]
        rfl
      refine ⟨_, hhit, rfl, rfl, rfl, hpos, ?_, rfl, rfl, peakFlag_iff _ _ _, peakFlag_iff _ _ _,
        fun _ => ⟨rfl, rfl, rfl, decide_eq_true_iff⟩, fun h => absurd (hfound.symm.trans h) (by decide)⟩
      rw [hlimit, hpos]
      exact hitLimit_iff exact_
    · have hexact : exact_ = l.indexPoint := by
        unfold exact_
        rw [hloss]
      have hhit : hitOf l g peaks r = [lossHit l g peaks (r.amp.getD 0) r.place] := by simp only [hitOf, hloss]
      rw [hexact]
      exact ⟨_, hhit, rfl, rfl, rfl, rfl, hitLimit_iff l.indexPoint, rfl, rfl, peakFlag_iff _ _ _, peakFlag_iff _ _ _,
        fun h => absurd (hloss.symm.trans h) (by decide), fun _ => ⟨rfl, rfl, rfl, rfl⟩⟩

/-! Gates (R74 to R82). -/

theorem highest_mem {l : List (Nat × GainedPeak)} {x : Nat × GainedPeak} (h : highest l = some x) : x ∈ l := by
  induction l generalizing x with
  | nil => cases h
  | cons y rest ih =>
    unfold highest at h
    cases hrest : highest rest with
    | none =>
      rw [hrest] at h
      cases h
      exact List.mem_cons_self
    | some z =>
      rw [hrest] at h
      dsimp only at h
      split at h
      · cases h
        exact List.mem_cons_of_mem y (ih hrest)
      · cases h
        exact List.mem_cons_self

/-- The highest peak, the earliest on ties (R80). -/
theorem highest_append {before after : List (Nat × GainedPeak)} {x : Nat × GainedPeak}
    (hb : ∀ y ∈ before, y.2.amp < x.2.amp) (ha : ∀ y ∈ after, y.2.amp ≤ x.2.amp) :
    highest (before ++ x :: after) = some x := by
  induction before with
  | nil =>
    rw [List.nil_append, highest]
    cases hrest : highest after with
    | none => rfl
    | some y => exact if_neg (Nat.not_lt.mpr (ha y (highest_mem hrest)))
  | cons b rest ih =>
    rw [List.cons_append, highest, ih fun y hy => hb y (List.mem_cons_of_mem b hy)]
    exact if_pos (hb b List.mem_cons_self)

theorem highest_nil : highest [] = none := rfl

section
variable (threshold : Nat) (w : Nat × Nat)

/-- Whether a peak lies in the window (R75). -/
def isInside (x : Nat × GainedPeak) : Bool := decide (w.1 ≤ x.2.time) && decide (x.2.time ≤ w.2)

/-- Whether a peak of the window reaches the threshold (R75). -/
def isCandidate (x : Nat × GainedPeak) : Bool := isInside w x && decide (threshold ≤ x.2.amp)

theorem isInside_iff (x : Nat × GainedPeak) : isInside w x = true ↔ w.1 ≤ x.2.time ∧ x.2.time ≤ w.2 := by
  simp [isInside]

theorem isCandidate_iff (x : Nat × GainedPeak) :
    isCandidate threshold w x = true ↔ (w.1 ≤ x.2.time ∧ x.2.time ≤ w.2) ∧ threshold ≤ x.2.amp := by
  simp [isCandidate, isInside]

theorem reaching_inWindow (peaks : List (Nat × GainedPeak)) :
    reaching threshold (inWindow w peaks) = peaks.filter (isCandidate threshold w) := by
  rw [reaching, inWindow, List.filter_filter]
  exact List.filter_congr fun x _ => Bool.and_comm _ _

end

/-- The gate modes, on the peaks of the window that the filter leaves (R76, R79 to R81). -/
theorem gateModes_hold : gateModes := by
  intro threshold w peaks inside candidate takes empty
  have hnone {p : Nat × GainedPeak → Bool} {q : Nat × GainedPeak → Prop} (hpq : ∀ x, p x = true ↔ q x)
      (h : ∀ x ∈ peaks, ¬q x) : peaks.filter p = [] := List.filter_eq_nil_iff.mpr fun x hx hp => h x hx ((hpq x).mp hp)
  have hsplit {p : Nat × GainedPeak → Bool} {before after : List (Nat × GainedPeak)} {x : Nat × GainedPeak}
      (h : peaks = before ++ x :: after) (hx : p x = true) : peaks.filter p = before.filter p ++ x :: after.filter p := by
    rw [h, List.filter_append, List.filter_cons_of_pos hx]
  have hcand := isCandidate_iff threshold w
  have hin := isInside_iff w
  refine ⟨fun h => ?_, fun before x after h hx hb => ?_, fun before x after h hx hb ha => ?_, fun h => ?_,
    fun before x after h hx hb ha => ?_⟩
  · have hempty := hnone hcand h
    constructor
    · simp only [gateOn, reaching_inWindow, hempty, List.head?_nil, foundOr]
      rfl
    · simp only [gateOn, reaching_inWindow, hempty, highest_nil, foundOr]
      rfl
  · have hbefore : before.filter (isCandidate threshold w) = [] :=
      List.filter_eq_nil_iff.mpr fun y hy hp => hb y hy ((hcand y).mp hp)
    have hfilter := hsplit h ((hcand x).mpr hx)
    simp only [takes, gateOn, reaching_inWindow, hfilter, hbefore, List.nil_append, List.head?_cons, foundOr]
    rfl
  · have hfilter := hsplit h ((hcand x).mpr hx)
    have hhigh : highest (before.filter (isCandidate threshold w) ++ x :: after.filter (isCandidate threshold w)) = some x := by
      refine highest_append (fun y hy => ?_) fun y hy => ?_
      · rw [List.mem_filter, hcand] at hy
        exact hb y hy.1 hy.2
      · rw [List.mem_filter, hcand] at hy
        exact ha y hy.1 hy.2
    simp only [takes, gateOn, reaching_inWindow, hfilter, hhigh, foundOr]
    rfl
  · have hempty : inWindow w peaks = [] := hnone hin h
    simp only [gateOn, hempty, highest_nil]
  · have hfilter : inWindow w peaks = before.filter (isInside w) ++ x :: after.filter (isInside w) :=
      hsplit h ((hin x).mpr hx)
    have hhigh : highest (before.filter (isInside w) ++ x :: after.filter (isInside w)) = some x := by
      refine highest_append (fun y hy => ?_) fun y hy => ?_
      · rw [List.mem_filter, hin] at hy
        exact hb y hy.1 hy.2
      · rw [List.mem_filter, hin] at hy
        exact ha y hy.1 hy.2
    simp only [takes, gateOn, hfilter, hhigh]
    rfl

/-- The peaks in their order, with their places from 1. -/
theorem placed_snd (peaks : List GainedPeak) : (placed peaks).map (·.2) = peaks := by
  rw [placed, List.map_map]
  exact List.map_snd_zip (by rw [List.length_range])

theorem mem_placed {peaks : List GainedPeak} {k : Nat} {p : GainedPeak} (h : (k, p) ∈ placed peaks) :
    1 ≤ k ∧ peaks[k - 1]? = some p := by
  obtain ⟨x, hx, heq⟩ := List.mem_map.mp h
  obtain ⟨i, hi, hget⟩ := List.mem_iff_getElem.mp hx
  rw [List.getElem_zip, List.getElem_range] at hget
  subst hget
  cases heq
  exact ⟨Nat.le_add_left 1 i, by rw [Nat.add_sub_cancel, List.getElem?_eq_getElem]⟩

/-- Gate A or B of a shot, by its enable and the interface (R74, R77, R78). -/
theorem hitGate_rule (f : GateFields) (off no : Bool) (shift : Option Nat) (ps : List (Nat × GainedPeak)) :
    ((f.enable = false ∨ off = true) → hitGate f off no shift ps = noPeak .disabled none) ∧
    (f.enable = true → off = false → no = true → hitGate f off no shift ps = noPeak .notEvaluated none) ∧
    (f.enable = true → off = false → no = false →
      (∀ time, shift = some time → hitGate f off no shift ps = gateOn f.mode f.threshold
        (min 16383 (f.start + time), min 16383 (f.stop + time)) ps) ∧
      (shift = none → hitGate f off no shift ps = gateOn f.mode f.threshold (f.start, f.stop) ps)) := by
  refine ⟨fun h => ?_, fun he ho hn => ?_, fun he ho hn => ⟨fun time hs => ?_, fun hs => ?_⟩⟩
  · have hoff : (!f.enable || off) = true := by
      obtain h | h := h <;> simp [h]
    exact if_pos hoff
  · simp [hitGate, he, ho, hn]
  · simp [hitGate, he, ho, hn, hs, effectiveWindow]
  · simp [hitGate, he, ho, hn, hs, fieldWindow]

/-- Settles O28: gate I first, then the window that its time gives the two hit gates. -/
theorem gatesTakeTheirPeaks : Obligations.GatesTakeTheirPeaks := by
  refine ⟨gateModes_hold, fun peaks => ⟨placed_snd peaks, fun k p => mem_placed⟩, fun r offI offA offB syncOff peaks => ?_⟩
  intro g no sync
  let synced := r.interfaceSync && !syncOff
  let shift := if synced then g.i.time else none
  have hsync : synced = true ↔ sync := by simp [synced, sync]
  refine ⟨fun h => ?_, fun he ho => ?_, ?_, ?_⟩
  · have hoff : (!r.gateI.enable || offI) = true := by
      obtain h | h := h <;> simp [h]
    exact if_pos hoff
  · exact if_neg (by simp [he, ho])
  · have hdef : g.noInterface = (synced && g.i.status == .notFound) := rfl
    rw [hdef, Bool.and_eq_true, hsync, beq_iff_eq]
  · have hgate (f : GateFields) (off : Bool) (x : GateResult) (hx : x = hitGate f off g.noInterface shift (placed peaks)) :
        ((f.enable = false ∨ off = true) → x = no .disabled) ∧
        (f.enable = true → off = false → g.noInterface = true → x = no .notEvaluated) ∧
        (f.enable = true → off = false → g.noInterface = false →
          (∀ time, sync → g.i.time = some time → x = gateOn f.mode f.threshold
            (min 16383 (f.start + time), min 16383 (f.stop + time)) (placed peaks)) ∧
          (¬(sync ∧ g.i.time.isSome = true) → x = gateOn f.mode f.threshold (f.start, f.stop) (placed peaks))) := by
      obtain ⟨hdisabled, hunevaluated, hon⟩ := hitGate_rule f off g.noInterface shift (placed peaks)
      rw [← hx] at hdisabled hunevaluated hon
      refine ⟨hdisabled, hunevaluated, fun he ho hn => ⟨fun time hs ht => ?_, fun hno => ?_⟩⟩
      · exact (hon he ho hn).1 time (by rw [← ht]; exact if_pos (hsync.mpr hs))
      · refine (hon he ho hn).2 ?_
        by_cases hs : synced = true
        · have hnone : g.i.time = none := by
            rw [← Option.not_isSome_iff_eq_none]
            exact fun h => hno ⟨hsync.mp hs, h⟩
          exact (if_pos hs).trans hnone
        · exact if_neg hs
    intro x hx
    simp only [List.mem_cons, List.not_mem_nil, or_false] at hx
    obtain rfl | rfl := hx
    · exact hgate r.gateA offA g.a rfl
    · exact hgate r.gateB offB g.b rfl

/-! Entries (R112 to R115). -/

/-- The numbers after a number, in the circle 1 to 65535 (R115). -/
theorem nextNumber_iterate {n : Nat} (hlo : 1 ≤ n) (hhi : n ≤ 65535) (k : Nat) :
    nextNumber^[k] n = (n - 1 + k) % 65535 + 1 := by
  induction k with
  | zero =>
    rw [Function.iterate_zero, id, Nat.add_zero, Nat.mod_eq_of_lt (by omega)]
    omega
  | succ k ih =>
    rw [Function.iterate_succ_apply', ih, nextNumber]
    split <;> omega

/-- A search for a free number finds one, or every number it looked at is in use. -/
theorem freeNumber_or (used : List Nat) (fuel n : Nat) :
    (freeNumber used fuel n ∉ used ∨ ∀ k < fuel, nextNumber^[k] n ∈ used) ∧
      ∃ k, freeNumber used fuel n = nextNumber^[k] n := by
  induction fuel generalizing n with
  | zero => exact ⟨.inr fun k hk => absurd hk (Nat.not_lt_zero k), 0, rfl⟩
  | succ fuel ih =>
    by_cases hn : n ∈ used
    · have hstep : freeNumber used (fuel + 1) n = freeNumber used fuel (nextNumber n) := by simp [freeNumber, hn]
      obtain ⟨hsearch, k, hk⟩ := ih (nextNumber n)
      rw [hstep]
      refine ⟨hsearch.imp id fun hall j hj => ?_, k + 1, ?_⟩
      · cases j with
        | zero => exact hn
        | succ j =>
          rw [Function.iterate_succ_apply]
          exact hall j (by omega)
      · rw [hk, Function.iterate_succ_apply]
    · have hstep : freeNumber used (fuel + 1) n = n := by simp [freeNumber, hn]
      rw [hstep]
      exact ⟨.inl hn, 0, rfl⟩

/-- Among 49 numbers in a row one is free when 48 at most are in use (R115). -/
theorem freeNumber_free {used : List Nat} {n : Nat} (hused : used.length ≤ 48) (hlo : 1 ≤ n) (hhi : n ≤ 65535) :
    freeNumber used 49 n ∉ used ∧ 1 ≤ freeNumber used 49 n ∧ freeNumber used 49 n ≤ 65535 := by
  obtain ⟨hsearch, k, hk⟩ := freeNumber_or used 49 n
  have hrange : 1 ≤ nextNumber^[k] n ∧ nextNumber^[k] n ≤ 65535 := by
    rw [nextNumber_iterate hlo hhi]
    omega
  rw [← hk] at hrange
  refine ⟨hsearch.resolve_right fun hall => ?_, hrange⟩
  have hnodup : ((List.range 49).map fun k => nextNumber^[k] n).Nodup := by
    refine List.Nodup.map_on (fun i hi j hj hij => ?_) List.nodup_range
    rw [List.mem_range] at hi hj
    rw [nextNumber_iterate hlo hhi, nextNumber_iterate hlo hhi] at hij
    omega
  have hsub : ((List.range 49).map fun k => nextNumber^[k] n) ⊆ used := by
    intro x hx
    obtain ⟨k, hk, rfl⟩ := List.mem_map.mp hx
    exact hall k (List.mem_range.mp hk)
  have hlength := (List.subperm_of_subset hnodup hsub).length_le
  rw [List.length_map, List.length_range] at hlength
  omega

/-- The depth range of an entry stays in order when it widens (R113). -/
theorem widen_ordered {old : Option (Nat × Nat)} {d : Option Nat} (h : ∀ a b, old = some (a, b) → a ≤ b) (a b : Nat)
    (hw : widen old d = some (a, b)) : a ≤ b := by
  cases old with
  | none => cases hw
  | some x =>
    obtain ⟨lo, hi⟩ := x
    have hin := h lo hi rfl
    cases d with
    | none =>
      cases hw
      exact hin
    | some d =>
      cases hw
      omega

/-- Settles O33, by the search for a number, and by what a hit makes of the bounds of an entry. -/
theorem entriesStaySound : Obligations.EntriesStaySound := by
  refine ⟨fun used n => freeNumber_free, fun number maxSpan h => ?_, fun maxSpan h e hsound hspan => ?_⟩
  · refine ⟨le_rfl, le_rfl, le_rfl, ?_, fun a b hd => ?_⟩
    · have hzero : (openedBy number h).hi - (openedBy number h).lo = 0 := sub_self h.pos
      rw [hzero]
      exact Int.natCast_nonneg maxSpan
    · have hsame : h.depth.map (fun d => (d, d)) = some (a, b) := hd
      obtain ⟨d, -, hpair⟩ := Option.map_eq_some_iff.mp hsame
      cases hpair
      exact le_rfl
  · obtain ⟨hhits, hlo, hhi, hwide, hdepths⟩ := hsound
    have hpeak : (takeInto h e).peakPos = if e.peakAmp < h.amp then h.pos else e.peakPos := rfl
    have hamp : (takeInto h e).peakAmp = if e.peakAmp < h.amp then h.amp else e.peakAmp := rfl
    have hlow : (takeInto h e).lo = min e.lo h.pos := rfl
    have hhigh : (takeInto h e).hi = max e.hi h.pos := rfl
    have hcount : (takeInto h e).hits = min 65535 (e.hits + 1) := rfl
    refine ⟨⟨?_, ?_, ?_, ?_, fun a b hd => widen_ordered hdepths a b hd⟩, rfl, rfl, rfl, rfl, rfl, rfl, rfl, ?_⟩
    · omega
    · rw [hpeak, hlow]
      split <;> omega
    · rw [hpeak, hhigh]
      split <;> omega
    · rw [hlow, hhigh]
      exact hspan
    · rw [hamp]
      split <;> omega

/-! Evaluation (R125 to R127). -/

theorem confirms_iff (station tc : Nat) (e : Entry) (c : ConfEntry) :
    confirms station tc e c = true ↔
      ¬(c.station = station ∧ c.slot = e.slot.val) ∧ |e.peakPos - c.pos| ≤ (tc : Int) := by
  have habs : (e.peakPos - c.pos).natAbs ≤ tc ↔ |e.peakPos - c.pos| ≤ (tc : Int) := by
    rw [Int.abs_eq_natAbs, Int.ofNat_le]
  simp only [confirms, ← habs, Bool.and_eq_true, Bool.not_eq_true', Bool.and_eq_false_iff, decide_eq_true_eq,
    not_and_or, beq_eq_false_iff_ne, ne_eq]

theorem nearestConfirming_mem {station tc : Nat} {e : Entry} {l : List (Placed ConfEntry)} {c : ConfEntry}
    (h : nearestConfirming station tc e l = some c) : ∃ x ∈ l, confirms station tc e x.item = true ∧ x.item = c := by
  induction l generalizing c with
  | nil => cases h
  | cons y rest ih =>
    have hlater (hr : nearestConfirming station tc e rest = some c) :
        ∃ x ∈ y :: rest, confirms station tc e x.item = true ∧ x.item = c := by
      obtain ⟨x, hx, hxc⟩ := ih hr
      exact ⟨x, List.mem_cons_of_mem y hx, hxc⟩
    unfold nearestConfirming at h
    dsimp only at h
    split at h
    · rename_i hy
      cases hrest : nearestConfirming station tc e rest with
      | none =>
        rw [hrest] at h
        cases h
        exact ⟨y, List.mem_cons_self, hy, rfl⟩
      | some z =>
        rw [hrest] at h
        dsimp only at h
        split at h
        · exact hlater (hrest.trans h)
        · cases h
          exact ⟨y, List.mem_cons_self, hy, rfl⟩
    · exact hlater h

/-- The nearest confirming entry, the oldest on ties (R125). -/
theorem nearestConfirming_append {station tc : Nat} {e : Entry} {before after : List (Placed ConfEntry)} {x : Placed ConfEntry}
    (hx : confirms station tc e x.item = true)
    (hb : ∀ y ∈ before, confirms station tc e y.item = true → (e.peakPos - x.item.pos).natAbs < (e.peakPos - y.item.pos).natAbs)
    (ha : ∀ y ∈ after, confirms station tc e y.item = true → (e.peakPos - x.item.pos).natAbs ≤ (e.peakPos - y.item.pos).natAbs) :
    nearestConfirming station tc e (before ++ x :: after) = some x.item := by
  induction before with
  | nil =>
    rw [List.nil_append, nearestConfirming, if_pos hx]
    cases hrest : nearestConfirming station tc e after with
    | none => rfl
    | some c =>
      obtain ⟨y, hy, hconf, rfl⟩ := nearestConfirming_mem hrest
      exact if_neg (Nat.not_lt.mpr (ha y hy hconf))
  | cons b rest ih =>
    rw [List.cons_append, nearestConfirming, ih fun y hy => hb y (List.mem_cons_of_mem b hy)]
    by_cases hconf : confirms station tc e b.item = true
    · rw [if_pos hconf]
      exact if_pos (hb b List.mem_cons_self hconf)
    · rw [if_neg hconf]

/-- What an entry meets, as a proposition (R126). -/
theorem meets_iff (e : Entry) (n a : Nat) : meets e n a = true ↔ n ≤ e.hits ∧ a ≤ e.peakAmp := by
  simp [meets]

/-- Settles O36: the search by where the nearest entry stands, the outcome by whether the thresholds are met. -/
theorem evaluationOutcome : Obligations.EvaluationOutcome := by
  refine ⟨fun station tc e l => ?_, fun e r confirmed hn ha => ?_⟩
  · intro away confirming
    have hconf (x : Placed ConfEntry) : confirms station tc e x.item = true ↔ confirming x := confirms_iff station tc e x.item
    have hle (x y : Placed ConfEntry) : (e.peakPos - x.item.pos).natAbs ≤ (e.peakPos - y.item.pos).natAbs ↔ away x ≤ away y := by
      simp only [away, Int.abs_eq_natAbs, Int.ofNat_le]
    have hlt (x y : Placed ConfEntry) : (e.peakPos - x.item.pos).natAbs < (e.peakPos - y.item.pos).natAbs ↔ away x < away y := by
      simp only [away, Int.abs_eq_natAbs, Int.ofNat_lt]
    refine ⟨fun hnone => ?_, fun before x after hl hx hb ha => ?_⟩
    · cases hfound : nearestConfirming station tc e l with
      | none => rw [confirmingSource, hfound]; rfl
      | some c =>
        obtain ⟨x, hx, hxc, -⟩ := nearestConfirming_mem hfound
        exact absurd ((hconf x).mp hxc) (hnone x hx)
    · have hfound := nearestConfirming_append (before := before) (after := after) ((hconf x).mpr hx)
        (fun y hy hyc => (hlt x y).mpr (hb y hy ((hconf y).mp hyc)))
        (fun y hy hyc => (hle x y).mpr (ha y hy ((hconf y).mp hyc)))
      rw [confirmingSource, hl, hfound]
      rfl
  · intro watch report
    have hwatch : meets e r.nwatch r.awatch = true ↔ watch := meets_iff e r.nwatch r.awatch
    have hreport : meets e r.nrep r.arep = true ↔ report := meets_iff e r.nrep r.arep
    have himp : report → watch := fun h => ⟨hn.trans h.1, ha.trans h.2⟩
    have houtcome : outcomeOf e r confirmed =
        if (confirmed = true ∧ watch) ∨ (confirmed = false ∧ report) then .reportable else if watch then .weak else .discarded := by
      cases confirmed <;> simp [outcomeOf, hwatch, hreport]
    rw [houtcome]
    refine ⟨?_, ?_, ?_, rfl⟩ <;> cases confirmed <;> by_cases hw : watch <;> by_cases hr : report <;> simp_all

end Sys2Proof.Machine
end

section

/-! PROOFS. The peak list: one peak per excursion, its first highest sample (R53 to R55). -/

namespace Sys2Proof.Machine

/-- The ticks from a to b of a signal at or above the floor, reached from below, with their first highest sample. -/
structure Tops (floor : Nat) (heard : Nat → Nat) (a b : Nat) (p : Peak) : Prop where
  from_le : a ≤ p.time
  le_to : p.time ≤ b
  above : ∀ t, a ≤ t → t ≤ b → floor ≤ heard t
  start : a = 0 ∨ heard (a - 1) < floor
  raw_eq : p.raw = heard p.time
  highest : ∀ t, a ≤ t → t ≤ b → heard t ≤ p.raw
  first : ∀ t, a ≤ t → t < p.time → heard t < p.raw

/-- A peak of an excursion of the signal that ends at tick k - 1 or later. -/
def PeakFrom (floor : Nat) (heard : Nat → Nat) (k : Nat) (p : Peak) : Prop :=
  ∃ a b, Tops floor heard a b p ∧ heard (b + 1) < floor ∧ k ≤ b + 1

/-- What the ticks before k leave open: no excursion, or one that reaches tick k - 1. -/
def OpenAt (floor : Nat) (heard : Nat → Nat) (k : Nat) : Option Excursion → Prop
  | none => k = 0 ∨ heard (k - 1) < floor
  | some e => e.latest + 1 = k ∧ ∃ a, Tops floor heard a e.latest e.peak

/-- The signal from tick k on is that of the samples. -/
def Heard (last : Nat) (samples : List (Nat × Nat)) (heard : Nat → Nat) (k : Nat) : Prop :=
  ∀ t, k ≤ t → heard t = if t ≤ last then min 4095 ((samples.lookup t).getD 0) else 0

variable {floor last : Nat} {heard : Nat → Nat}

theorem Tops.unique {a a' b : Nat} {p p' : Peak} (h : Tops floor heard a b p) (h' : Tops floor heard a' b p') :
    p = p' := by
  have hle {a a' : Nat} {p p' : Peak} (h : Tops floor heard a b p) (h' : Tops floor heard a' b p') : a' ≤ a := by
    by_contra hlt
    have hlow := h'.start.resolve_left (by omega)
    have := h.above (a' - 1) (by omega) (by have := h'.from_le; have := h'.le_to; omega)
    omega
  obtain rfl := Nat.le_antisymm (hle h' h) (hle h h')
  have hraw : p.raw = p'.raw := by
    have h1 := h.highest p'.time h'.from_le h'.le_to
    have h2 := h'.highest p.time h.from_le h.le_to
    rw [← h'.raw_eq] at h1
    rw [← h.raw_eq] at h2
    omega
  have htime : p.time = p'.time := by
    rcases Nat.lt_trichotomy p.time p'.time with hlt | heq | hlt
    · have := h'.first p.time h.from_le hlt
      have := h.raw_eq
      omega
    · exact heq
    · have := h.first p'.time h'.from_le hlt
      have := h'.raw_eq
      omega
  cases p
  cases p'
  simp only at hraw htime
  rw [hraw, htime]

theorem Tops.nonempty {a b : Nat} {p : Peak} (h : Tops floor heard a b p) : a ≤ b := Nat.le_trans h.from_le h.le_to

/-- With no excursion open and the ticks before m - 1 low, the next excursion ends at tick m - 1 or later. -/
theorem peakFrom_of_none {k m : Nat} (hopen : OpenAt floor heard k none) (hkm : k ≤ m)
    (hlow : ∀ u, k ≤ u → u + 1 < m → heard u < floor) (p : Peak) :
    PeakFrom floor heard k p ↔ PeakFrom floor heard m p := by
  constructor
  · rintro ⟨a, b, htop, hend, hk⟩
    refine ⟨a, b, htop, hend, ?_⟩
    by_contra hbm
    have hne := htop.nonempty
    have hb := htop.above b hne (Nat.le_refl b)
    by_cases hkb : k = b + 1
    · subst hkb
      rcases hopen with h0 | hbefore
      · exact absurd h0 (by omega)
      · exact absurd hb (by simpa using hbefore)
    · have := hlow b (by omega) (by omega)
      omega
  · rintro ⟨a, b, htop, hend, hk⟩
    exact ⟨a, b, htop, hend, by omega⟩

/-- A low tick ends the open excursion. -/
theorem peakFrom_of_low {k : Nat} {cur : Option Excursion} (hopen : OpenAt floor heard k cur) (hlow : heard k < floor)
    (p : Peak) :
    PeakFrom floor heard k p ↔ p ∈ (cur.map (·.peak)).toList ∨ PeakFrom floor heard (k + 1) p := by
  cases cur with
  | none =>
    rw [peakFrom_of_none hopen (Nat.le_succ k) (fun u h1 h2 => absurd h1 (by omega))]
    simp
  | some e =>
    obtain ⟨rfl, a, htop⟩ := hopen
    simp only [Option.map_some, Option.toList_some, List.mem_singleton]
    constructor
    · rintro ⟨a', b, htop', hend, hk⟩
      by_cases hb : b = e.latest
      · subst hb
        exact Or.inl (htop'.unique htop)
      · exact Or.inr ⟨a', b, htop', hend, by omega⟩
    · rintro (rfl | ⟨a', b, htop', hend, hk⟩)
      · exact ⟨a, e.latest, htop, hlow, Nat.le_refl _⟩
      · exact ⟨a', b, htop', hend, by omega⟩

/-- Low ticks end the open excursion, and the next one ends behind them. -/
theorem peakFrom_of_lows {k m : Nat} {cur : Option Excursion} (hopen : OpenAt floor heard k cur) (hkm : k < m)
    (hlow : ∀ u, k ≤ u → u < m → heard u < floor) (p : Peak) :
    PeakFrom floor heard k p ↔ p ∈ (cur.map (·.peak)).toList ∨ PeakFrom floor heard m p := by
  have hk := hlow k (Nat.le_refl k) hkm
  rw [peakFrom_of_low hopen hk,
    peakFrom_of_none (k := k + 1) (Or.inr hk) hkm (fun u h1 h2 => hlow u (by omega) (by omega))]

/-- Where the signal stays low the open excursion is the last one. -/
theorem peakFrom_of_silent {k : Nat} {cur : Option Excursion} (hopen : OpenAt floor heard k cur)
    (hlow : ∀ u, k ≤ u → heard u < floor) (p : Peak) :
    PeakFrom floor heard k p ↔ p ∈ (cur.map (·.peak)).toList := by
  rw [peakFrom_of_low hopen (hlow k (Nat.le_refl k))]
  refine or_iff_left ?_
  rintro ⟨a, b, htop, -, hk⟩
  have := htop.above b htop.nonempty (Nat.le_refl b)
  have := hlow b (by omega)
  omega

/-- A peak of a later excursion stands after a low tick. -/
theorem lt_time_of_peakFrom {k m : Nat} {p : Peak} (h : PeakFrom floor heard m p) (hkm : k < m)
    (hlow : heard k < floor) : k < p.time := by
  obtain ⟨a, b, htop, -, hm⟩ := h
  have hfrom := htop.from_le
  by_contra hle
  have := htop.above k (by omega) (by omega)
  omega

theorem time_lt_of_open {k : Nat} {e : Excursion} (h : OpenAt floor heard k (some e)) : e.peak.time < k := by
  obtain ⟨rfl, a, htop⟩ := h
  exact Nat.lt_succ_of_le htop.le_to

/-- A sample that continues the open excursion. -/
theorem openAt_extend {k v : Nat} {e : Excursion} (h : OpenAt floor heard k (some e)) (hv : heard k = v) (hfloor : floor ≤ v) :
    OpenAt floor heard (k + 1) (some ⟨k, if e.peak.raw < v then ⟨k, v⟩ else e.peak⟩) := by
  obtain ⟨rfl, a, htop⟩ := h
  have hne := htop.nonempty
  have habove : ∀ t, a ≤ t → t ≤ e.latest + 1 → floor ≤ heard t := by
    intro t h1 h2
    rcases Nat.lt_or_ge t (e.latest + 1) with hlt | hge
    · exact htop.above t h1 (by omega)
    · obtain rfl : t = e.latest + 1 := by omega
      omega
  refine ⟨rfl, a, ?_⟩
  split
  · rename_i hlt
    have hbefore : ∀ t, a ≤ t → t < e.latest + 1 → heard t < v := by
      intro t h1 h2
      have := htop.highest t h1 (by omega)
      omega
    refine ⟨by dsimp only; omega, Nat.le_refl _, habove, htop.start, hv.symm, ?_, hbefore⟩
    intro t h1 h2
    dsimp only at h2 ⊢
    rcases Nat.lt_or_ge t (e.latest + 1) with hlt' | hge
    · exact Nat.le_of_lt (hbefore t h1 hlt')
    · obtain rfl : t = e.latest + 1 := by omega
      omega
  · rename_i hle
    refine ⟨htop.from_le, Nat.le_succ_of_le htop.le_to, habove, htop.start, htop.raw_eq, ?_, htop.first⟩
    intro t h1 h2
    dsimp only at h2 ⊢
    rcases Nat.lt_or_ge t (e.latest + 1) with hlt' | hge
    · exact htop.highest t h1 (by omega)
    · obtain rfl : t = e.latest + 1 := by omega
      omega

/-- A sample that starts an excursion. -/
theorem openAt_start {t v : Nat} (h : OpenAt floor heard t none) (hv : heard t = v) (hfloor : floor ≤ v) :
    OpenAt floor heard (t + 1) (some ⟨t, ⟨t, v⟩⟩) := by
  have honly {u : Nat} (h1 : t ≤ u) (h2 : u ≤ t) : heard u = v := by
    obtain rfl : u = t := Nat.le_antisymm h2 h1
    exact hv
  refine ⟨rfl, t, Nat.le_refl t, Nat.le_refl t, ?_, h, hv.symm, ?_, ?_⟩
  · intro u h1 h2
    rw [honly h1 h2]
    exact hfloor
  · intro u h1 h2
    exact Nat.le_of_eq (honly h1 h2)
  · intro u h1 h2
    exact absurd (Nat.lt_of_le_of_lt h1 h2) (Nat.lt_irrefl t)

theorem openAt_none_of_low {k t : Nat} (hkt : k < t) (hlow : ∀ u, k ≤ u → u < t → heard u < floor) :
    OpenAt floor heard t none := Or.inr (hlow (t - 1) (by omega) (by omega))

theorem risingTicks_cons {x : Nat × Nat} {rest : List (Nat × Nat)} (h : risingTicks (x :: rest) = true) :
    risingTicks rest = true ∧ ∀ y ∈ rest, x.1 < y.1 := by
  induction rest generalizing x with
  | nil => exact ⟨rfl, nofun⟩
  | cons y more ih =>
    simp only [risingTicks, Bool.and_eq_true, decide_eq_true_eq] at h
    obtain ⟨hxy, hrest⟩ := h
    refine ⟨hrest, ?_⟩
    intro z hz
    rcases List.mem_cons.1 hz with rfl | hz
    · exact hxy
    · exact Nat.lt_trans hxy ((ih hrest).2 z hz)

theorem lookup_none_of_lt {samples : List (Nat × Nat)} {k u : Nat} (h : ∀ x ∈ samples, k ≤ x.1) (hu : u < k) :
    samples.lookup u = none := by
  rw [List.lookup_eq_none_iff]
  intro x hx
  have := h x hx
  simp only [bne_iff_ne, ne_eq]
  omega

variable {t v k : Nat} {rest : List (Nat × Nat)}

/-- The ticks before the next sample are silent. -/
theorem Heard.low (h : Heard last ((t, v) :: rest) heard k) (hlater : ∀ y ∈ rest, t < y.1) (hfloor : 1 ≤ floor) :
    ∀ u, k ≤ u → u < t → heard u < floor := by
  intro u h1 h2
  have hall : ∀ x ∈ (t, v) :: rest, t ≤ x.1 := by
    intro x hx
    rcases List.mem_cons.1 hx with rfl | hx
    · exact Nat.le_refl t
    · exact Nat.le_of_lt (hlater x hx)
  rw [h u h1, lookup_none_of_lt hall h2]
  simp only [Option.getD_none, Nat.min_zero, ite_self]
  omega

theorem Heard.at (h : Heard last ((t, v) :: rest) heard k) (hkt : k ≤ t) (hlast : t ≤ last) : heard t = min v 4095 := by
  rw [h t hkt, if_pos hlast, List.lookup_cons_self, Option.getD_some, Nat.min_comm]

theorem Heard.tail (h : Heard last ((t, v) :: rest) heard k) (hkt : k ≤ t) : Heard last rest heard (t + 1) := by
  intro u hu
  have hne : (u == t) = false := by
    rw [beq_eq_false_iff_ne]
    omega
  rw [h u (by omega), List.lookup_cons, hne]

/-- The peaks of the samples are those of the signal's excursions, in time order. -/
theorem peaksOf_spec (hfloor : 1 ≤ floor) (samples : List (Nat × Nat)) (cur : Option Excursion) (k : Nat)
    (hrising : risingTicks samples = true) (hfrom : ∀ x ∈ samples, k ≤ x.1) (hheard : Heard last samples heard k)
    (hopen : OpenAt floor heard k cur) :
    (peaksOf floor last cur samples).Pairwise (fun x y => x.time < y.time) ∧
      ∀ p, p ∈ peaksOf floor last cur samples ↔ PeakFrom floor heard k p := by
  have hsingle (c : Option Excursion) : ((c.map (·.peak)).toList).Pairwise (fun x y => x.time < y.time) := by
    cases c <;> simp
  induction samples generalizing cur k with
  | nil =>
    refine ⟨hsingle cur, fun p => (peakFrom_of_silent hopen ?_ p).symm⟩
    intro u hu
    rw [hheard u hu]
    simp only [List.lookup_nil, Option.getD_none, Nat.min_zero, ite_self]
    omega
  | cons x rest ih =>
    obtain ⟨t, v⟩ := x
    obtain ⟨hrest, hlater⟩ := risingTicks_cons hrising
    have hkt : k ≤ t := hfrom (t, v) List.mem_cons_self
    have hbefore := hheard.low hlater hfloor
    have hnext (c : Option Excursion) := ih c (t + 1) hrest hlater (hheard.tail hkt)
    unfold peaksOf
    split
    · rename_i hlast
      refine ⟨hsingle cur, fun p => (peakFrom_of_silent hopen ?_ p).symm⟩
      intro u hu
      rcases Nat.lt_or_ge u t with hlt | hge
      · exact hbefore u hu hlt
      · rw [hheard u hu, if_neg (by omega)]
        omega
    · rename_i hlast
      have hat := hheard.at hkt (Nat.le_of_not_lt hlast)
      dsimp only
      split
      · rename_i hlow
        have hall : ∀ u, k ≤ u → u < t + 1 → heard u < floor := by
          intro u h1 h2
          rcases Nat.lt_or_ge u t with hlt | hge
          · exact hbefore u h1 hlt
          · obtain rfl : u = t := by omega
            omega
        obtain ⟨hsorted, hmem⟩ := hnext none (openAt_none_of_low (by omega) hall)
        have hset := peakFrom_of_lows hopen (by omega) hall
        cases cur with
        | none => exact ⟨hsorted, fun p => by rw [hset p]; simpa using hmem p⟩
        | some e =>
          refine ⟨List.pairwise_cons.2 ⟨fun p hp => ?_, hsorted⟩, fun p => by rw [hset p, ← hmem p]; simp⟩
          exact Nat.lt_trans (time_lt_of_open hopen)
            (lt_time_of_peakFrom ((hmem p).1 hp) (by omega) (hall k (Nat.le_refl k) (by omega)))
      · rename_i hhigh
        have hge : floor ≤ min v 4095 := Nat.le_of_not_lt hhigh
        cases cur with
        | none =>
          have hopen' : OpenAt floor heard t none := by
            rcases Nat.eq_or_lt_of_le hkt with rfl | hlt
            · exact hopen
            · exact openAt_none_of_low hlt hbefore
          obtain ⟨hsorted, hmem⟩ := hnext _ (openAt_start hopen' hat hge)
          refine ⟨hsorted, fun p => (hmem p).trans ?_⟩
          exact (peakFrom_of_none hopen (by omega) (fun u h1 h2 => hbefore u h1 (by omega)) p).symm
        | some e =>
          dsimp only
          split
          · rename_i ht
            obtain rfl : k = t := hopen.1.symm.trans ht.symm
            obtain ⟨hsorted, hmem⟩ := hnext _ (openAt_extend hopen hat hge)
            refine ⟨hsorted, fun p => (hmem p).trans ⟨?_, ?_⟩⟩
            · rintro ⟨a, b, htop, hend, hk⟩
              exact ⟨a, b, htop, hend, by omega⟩
            · rintro ⟨a, b, htop, hend, hk⟩
              refine ⟨a, b, htop, hend, ?_⟩
              by_contra hb
              obtain rfl : k = b + 1 := by omega
              omega
          · rename_i ht
            have hlt : k < t := by
              have := hopen.1
              omega
            have hopen' : OpenAt floor heard t none := openAt_none_of_low hlt hbefore
            obtain ⟨hsorted, hmem⟩ := hnext _ (openAt_start hopen' hat hge)
            refine ⟨List.pairwise_cons.2 ⟨fun p hp => ?_, hsorted⟩, fun p => ?_⟩
            · exact Nat.lt_trans (time_lt_of_open hopen)
                (lt_time_of_peakFrom ((hmem p).1 hp) (by omega) (hbefore k (Nat.le_refl k) hlt))
            · rw [peakFrom_of_lows hopen hlt hbefore, List.mem_cons, hmem p,
                peakFrom_of_none hopen' (Nat.le_succ t) (fun u h1 h2 => absurd h1 (by omega))]
              simp

/-- Settles O23: the samples are read tick by tick, and what is left open is the excursion that reaches the last tick read. -/
theorem peakListHoldsExcursions : Obligations.PeakListHoldsExcursions := by
  unfold Obligations.PeakListHoldsExcursions
  intro floor quiet samples hrising hfloor last heard
  have hheard : Heard last samples heard 0 := fun t _ => rfl
  obtain ⟨hsorted, hmem⟩ := peaksOf_spec (cur := none) hfloor samples 0 hrising (fun _ _ => Nat.zero_le _) hheard (Or.inl rfl)
  have hpeak (p : Peak) : p ∈ peaksOf floor last none samples ↔ ∃ a b, Tops floor heard a b p ∧ heard (b + 1) < floor := by
    rw [hmem p]
    exact exists_congr fun a => exists_congr fun b => and_congr_right fun _ => and_iff_left (Nat.zero_le _)
  refine ⟨peaksOf floor last none samples, rfl, hsorted, ?_, fun p => (hpeak p).trans ?_⟩
  · intro p hp
    obtain ⟨a, b, htop, -⟩ := (hpeak p).1 hp
    have habove := htop.above p.time htop.from_le htop.le_to
    have hraw := htop.raw_eq
    have hvalue : heard p.time = if p.time ≤ last then min 4095 ((samples.lookup p.time).getD 0) else 0 := rfl
    have hlast : last ≤ 16383 := Nat.min_le_right _ _
    split at hvalue <;> omega
  · refine exists_congr fun a => exists_congr fun b => ⟨?_, ?_⟩
    · rintro ⟨⟨h1, h2, h3, h4, h5, h6, h7⟩, hend⟩
      exact ⟨h1, h2, h3, h4, hend, h5, h6, h7⟩
    · rintro ⟨h1, h2, h3, h4, hend, h5, h6, h7⟩
      exact ⟨⟨h1, h2, h3, h4, h5, h6, h7⟩, hend⟩

end Sys2Proof.Machine

end

section

/-! PROOFS. The closures of the tracker (07) on a sound station record, whatever the other words hold: what they leave, and the index
they free. -/

namespace Sys2Proof.Machine

/-- The station record stands as last written, and the access has met no damage in it. -/
def Steady (s : State) : Prop := Calm s ∧ Sound s (List.range 8)

/-- Every word stands as last written (R166). -/
def Pristine (s : State) : Prop := MemoryForm s ∧ ∀ a, (s.word a).changed = 0

/-- What work of the tracker on the listed indices leaves as it was (R120 to R133): the setup area's station record, the odometry,
coupling, run state, shot in flight, next number and every other index. -/
structure Leaves (is : List (Fin 32)) (s t : State) : Prop where
  calm : t.store.clearAtRelease = s.store.clearAtRelease
  station : ∀ a < 16, t.word a = s.word a
  strap : t.strap = s.strap
  odo : t.odo = s.odo
  coup : t.coup = s.coup
  gain : t.gain = s.gain
  run : t.link.run = s.link.run
  shot : t.sched.shot = s.sched.shot
  next : t.trk.next = s.trk.next
  others : ∀ j, j ∉ is → t.trk.entries[j] = s.trk.entries[j]
  table : is = [] → t.trk = s.trk
  pristine : Pristine s → Pristine t
  records : s.rep.records.length ≤ 16 → t.rep.records.length ≤ 16

theorem Leaves.refl (is : List (Fin 32)) (s : State) : Leaves is s s :=
  ⟨rfl, fun _ _ => rfl, rfl, rfl, rfl, rfl, rfl, rfl, rfl, fun _ _ => rfl, fun _ => rfl, id, id⟩

theorem Leaves.trans {is : List (Fin 32)} {s t u : State} (h : Leaves is s t) (k : Leaves is t u) : Leaves is s u :=
  ⟨k.calm.trans h.calm, fun a ha => (k.station a ha).trans (h.station a ha), k.strap.trans h.strap, k.odo.trans h.odo,
    k.coup.trans h.coup, k.gain.trans h.gain, k.run.trans h.run, k.shot.trans h.shot, k.next.trans h.next,
    fun j hj => (k.others j hj).trans (h.others j hj), fun hnil => (k.table hnil).trans (h.table hnil),
    k.pristine ∘ h.pristine, k.records ∘ h.records⟩

theorem Leaves.mono {is js : List (Fin 32)} {s t : State} (h : Leaves is s t) (hsub : ∀ i ∈ is, i ∈ js) : Leaves js s t :=
  { h with
    others := fun j hj => h.others j fun hi => hj (hsub j hi)
    table := fun hnil => h.table (List.eq_nil_iff_forall_not_mem.2 fun i hi => absurd (hsub i hi) (by simp [hnil])) }

theorem Leaves.foldl {α : Type} {is : List (Fin 32)} {f : State → α → State} {l : List α}
    (hf : ∀ s, ∀ x ∈ l, Leaves is s (f s x)) (s : State) : Leaves is s (l.foldl f s) := by
  induction l generalizing s with
  | nil => exact .refl is s
  | cons x rest ih =>
    exact (hf s x List.mem_cons_self).trans (ih (fun t y hy => hf t y (List.mem_cons_of_mem x hy)) (f s x))

theorem Leaves.ite {is : List (Fin 32)} {s t u : State} {p : Prop} [Decidable p] (ht : p → Leaves is s t) (hu : ¬p → Leaves is s u) :
    Leaves is s (if p then t else u) := by
  split
  · exact ht ‹_›
  · exact hu ‹_›

theorem Leaves.steady {is : List (Fin 32)} {s t : State} (h : Leaves is s t) (hs : Steady s) : Steady t := by
  obtain ⟨hcalm, hsound⟩ := hs
  refine ⟨h.calm.trans hcalm, fun a ha => ?_⟩
  rw [h.station a (by have := List.mem_range.1 ha; omega)]
  exact hsound a ha

theorem Steady.sound {s : State} (hs : Steady s) {ks : List Nat} (hk : ∀ k ∈ ks, k < 8) : Sound s ks :=
  fun k hmem => hs.2 k (List.mem_range.2 (hk k hmem))

/-! The reads and writes of the store. -/

/-- A write leaves every other word, whatever the memory's form. -/
theorem Memory.read_write_ne {a b : Nat} (m : List (Nat × StoreWord)) (w : StoreWord) (hab : b ≠ a) :
    Memory.read (Memory.write m a w) b = Memory.read m b := by
  have hab' : a ≠ b := Ne.symm hab
  induction m with
  | nil =>
    simp only [Memory.write]
    split <;> simp [Memory.read, hab']
  | cons x rest ih =>
    obtain ⟨c, v⟩ := x
    simp only [Memory.write]
    split
    · split <;> simp [Memory.read, hab']
    · split
      · rename_i hac
        subst hac
        split <;> simp [Memory.read, hab']
      · simp only [Memory.read]
        rw [ih]

theorem Pristine.setWord {s : State} (hs : Pristine s) (a : Nat) {w : StoreWord} (hw : w.changed = 0) :
    Pristine (s.setWord a w) := by
  obtain ⟨hmem, hsound⟩ := hs
  refine ⟨(Keeps.setWord s a w).memory hmem, fun b => ?_⟩
  by_cases ha : a < storeSize
  · rw [word_setWord hmem ha]
    split
    · exact hw
    · exact hsound b
  · rw [State.setWord, if_neg ha]
    exact hsound b

theorem setWord_leaves (is : List (Fin 32)) (s : State) {a : Nat} (ha : 16 ≤ a) {w : StoreWord} (hw : w.changed = 0) :
    Leaves is s (s.setWord a w) := by
  have hpristine (h : Pristine s) : Pristine (s.setWord a w) := h.setWord a hw
  unfold State.setWord at *
  split
  · rename_i hsize
    rw [if_pos hsize] at hpristine
    exact { Leaves.refl is s with
      station := fun b hb => Memory.read_write_ne _ w (by omega)
      pristine := hpristine }
  · exact .refl is s

theorem count_leaves (is : List (Fin 32)) (f : Counts → Counts) (s : State) : Leaves is s (s.count f) := { Leaves.refl is s with }

theorem writeWords_leaves (is : List (Fin 32)) (ds : List Word) {a : Nat} (ha : 16 ≤ a) (s : State) :
    Leaves is s (writeWords a ds s) := by
  induction ds generalizing a s with
  | nil => exact .refl is s
  | cons d rest ih => exact (setWord_leaves is s ha rfl).trans (ih (by omega) _)

theorem writeItem_leaves (is : List (Fin 32)) (s : State) {base : Nat} (hb : 16 ≤ base) (size : Nat) :
    Leaves is s (writeItem base size s) := writeWords_leaves is _ hb s

theorem freeEntry_get (i j : Fin 32) (s : State) : (freeEntry i s).trk.entries[j] = if j = i then none else s.trk.entries[j] :=
  put_get s.trk.entries i j none

theorem freeEntry_leaves (i : Fin 32) (s : State) : Leaves [i] s (freeEntry i s) := by
  refine { Leaves.refl [i] s with others := fun j hj => ?_, table := nofun }
  rw [freeEntry_get, if_neg (fun h => hj (by simp [h]))]

/-- A region whose words the tracker's work reads: no word of the station record or of a curve, and of the table only the listed
indices. -/
def readable (is : List (Fin 32)) : Region → Prop
  | .station => False
  | .curve _ _ => False
  | .entry i => i ∈ is
  | _ => True

theorem damageFifo_leaves (is : List (Fin 32)) (p : Nat) (s : State) : Leaves is s (damageFifo p s) :=
  .ite (fun _ => .refl is s) fun _ => { Leaves.refl is s with }

theorem damageRecord_leaves (is : List (Fin 32)) (p : Nat) (s : State) : Leaves is s (damageRecord p s) :=
  .ite (fun _ => .refl is s) fun _ => { Leaves.refl is s with records := (length_without_le _ p).trans }

theorem ownerAction_leaves {is : List (Fin 32)} {r : Region} (hr : readable is r) (s : State) :
    Leaves is s (ownerAction r s) := by
  cases r with
  | station => exact hr.elim
  | slot n => exact { Leaves.refl is s with }
  | curve a p => exact hr.elim
  | entry i => exact (freeEntry_leaves i s).mono fun j hj => List.mem_singleton.1 hj ▸ hr
  | conf p => exact { Leaves.refl is s with }
  | zone p => exact { Leaves.refl is s with }
  | fifo p => exact damageFifo_leaves is p s
  | report p => exact damageRecord_leaves is p s
  | mark p => exact { Leaves.refl is s with }

theorem garbleItem_leaves {is : List (Fin 32)} {r : Region} (hr : readable is r) (k : Nat) (m : BitVec 39) (s : State) :
    Leaves is s (garbleItem r k m s) := by
  cases r with
  | station => exact hr.elim
  | slot n => exact .refl is s
  | curve a p => exact hr.elim
  | entry i =>
    have hr : i ∈ is := hr
    refine { Leaves.refl is s with others := fun j hj => ?_, table := fun hnil => absurd hr (by simp [hnil]) }
    have hji : j ≠ i := fun h => hj (h ▸ hr)
    exact (put_get _ i j _).trans (if_neg hji)
  | conf p => exact { Leaves.refl is s with }
  | zone p => exact { Leaves.refl is s with }
  | fifo p => exact { Leaves.refl is s with }
  | report p =>
    have hlength : (garbleItem (.report p) k m s).rep.records.length = s.rep.records.length := by
      simp only [garbleItem, length_change]
    exact { Leaves.refl is s with records := fun h => hlength.trans_le h }
  | mark p => exact { Leaves.refl is s with }

theorem readWord_leaves {is : List (Fin 32)} {a : Nat} (ha : 16 ≤ a) (hr : readable is (regionOf a).1) (s : State) :
    Leaves is s (readWord a s).1 := by
  have hdouble : Leaves is s (readDouble a s) :=
    (count_leaves is _ s).trans (.ite (fun _ => ownerAction_leaves hr _) fun _ => setWord_leaves is _ ha rfl)
  unfold readWord readWith
  dsimp only
  split
  · exact .refl is s
  · exact ((setWord_leaves is s ha rfl).trans (count_leaves is _ _)).trans
      (.ite (fun _ => garbleItem_leaves hr _ _ _) fun _ => .refl is _)
  · exact (setWord_leaves is s ha rfl).trans (garbleItem_leaves hr _ _ _)
  · exact hdouble

theorem readWords_leaves {is : List (Fin 32)} {as : List Nat} (h : ∀ a ∈ as, 16 ≤ a ∧ readable is (regionOf a).1) (s : State) :
    Leaves is s (readWords as s).1 := by
  induction as generalizing s with
  | nil => exact .refl is s
  | cons a rest ih =>
    have hread := readWord_leaves (h a List.mem_cons_self).1 (h a List.mem_cons_self).2 s
    have ih := ih fun b hb => h b (List.mem_cons_of_mem a hb)
    unfold readWords
    split
    · rename_i heq
      rw [heq] at hread
      exact hread
    · rename_i s1 d heq
      rw [heq] at hread
      have hrest := hread.trans (ih s1)
      split <;> rename_i heq2 <;> rw [heq2] at hrest <;> exact hrest

/-- The words of the table and above, but for the indices that are not listed. -/
theorem readable_above {is : List (Fin 32)} {a : Nat} (ha : 688 ≤ a) : readable is (regionOf a).1 := by
  unfold regionOf
  rw [if_neg (by omega), if_neg (by omega), if_neg (by omega), if_neg (by omega)]
  repeat' split
  all_goals exact trivial

theorem readItem_leaves (is : List (Fin 32)) {base : Nat} (hb : 688 ≤ base) (size : Nat) (s : State) :
    Leaves is s (readItem base size s) := by
  refine readWords_leaves (fun a ha => ?_) s
  obtain ⟨k, -, rfl⟩ := List.mem_map.1 ha
  exact ⟨by omega, readable_above (by omega)⟩

theorem readConf_leaves (is : List (Fin 32)) (s : State) : Leaves is s (readConf s) :=
  .foldl (fun s p _ => readItem_leaves is (by unfold confBase; omega) 4 s) s

theorem readWaiting_leaves (is : List (Fin 32)) (s : State) : Leaves is s (readWaiting s) :=
  .foldl (fun s p _ => readItem_leaves is (by unfold reportBase; omega) 11 s) s

theorem readMarks_leaves (is : List (Fin 32)) (s : State) : Leaves is s (readMarks s) :=
  .foldl (fun s p _ => readItem_leaves is (by unfold markBase; omega) 2 s) s

theorem readSlot_leaves (is : List (Fin 32)) (n : Slot) {ks : List Nat} (hk : ∀ k ∈ ks, k < 24) (s : State) :
    Leaves is s (readSlot n ks s).1 := by
  have hread : Leaves is s (readWords (ks.map (slotBase n + ·)) s).1 := by
    refine readWords_leaves (fun a ha => ?_) s
    obtain ⟨k, hmem, rfl⟩ := List.mem_map.1 ha
    have hk := hk k hmem
    have hn := n.isLt
    have hregion : (regionOf (slotBase n + k)).1 = .slot n := by
      rw [regionOf_slot (n := n)] <;> simp only [slotBase] <;> omega
    rw [hregion]
    exact ⟨by simp only [slotBase]; omega, trivial⟩
  unfold readSlot
  split <;> rename_i heq <;> rw [heq] at hread <;> exact hread

theorem readEntries_leaves (i : Fin 32) (s : State) : Leaves [i] s (readEntries [i] s) := by
  refine .foldl (fun s j hj => .ite (fun _ => ?_) fun _ => .refl _ s) s
  obtain rfl := List.mem_singleton.1 hj
  refine readWords_leaves (fun a ha => ?_) s
  obtain ⟨k, hmem, rfl⟩ := List.mem_map.1 ha
  have hk := List.mem_range.1 hmem
  have hregion : (regionOf (entryBase j + k)).1 = .entry j := by
    rw [regionOf_entry (i := j)] <;> simp only [entryBase] <;> omega
  rw [hregion]
  exact ⟨by simp only [entryBase]; omega, List.mem_singleton.2 rfl⟩

/-! The outputs of a closure. -/

/-- The report records replaced by a list of 16 or fewer. -/
theorem setRecords_leaves (is : List (Fin 32)) (l : List (Placed IndicationRecord)) {s : State}
    (h : s.rep.records.length ≤ 16 → l.length ≤ 16) : Leaves is s (setRecords l s) :=
  { Leaves.refl is s with records := h }

theorem setMark_leaves (is : List (Fin 32)) (f : MarkerUnit → MarkerUnit) (s : State) : Leaves is s (s.setMark f) :=
  { Leaves.refl is s with }

theorem setConf_leaves (is : List (Fin 32)) (l : List (Placed ConfEntry)) (s : State) : Leaves is s (setConf l s) :=
  { Leaves.refl is s with }

theorem appendRecord_leaves (is : List (Fin 32)) (r : IndicationRecord) {s : State} {l : List (Placed IndicationRecord)}
    (h : s.rep.records.length ≤ 16 → l.length < 16) : Leaves is s (appendRecord r (setRecords l s)) := by
  have htwice (m : List (Placed IndicationRecord)) : setRecords m (setRecords l s) = setRecords m s := rfl
  have hset : Leaves is s (setRecords (l ++ [⟨freePlace l, r⟩]) s) := setRecords_leaves is _ fun hle => by
    rw [List.length_append, List.length_singleton]
    exact h hle
  have hbase : 16 ≤ reportBase (freePlace l) := by
    unfold reportBase
    omega
  unfold appendRecord
  simp only [setRecords_rep, htwice]
  exact hset.trans (writeItem_leaves is _ hbase 11)

theorem displaceFor_leaves (is : List (Fin 32)) (r : IndicationRecord) (s : State) : Leaves is s (displaceFor r s) := by
  have hread := readWaiting_leaves is s
  have hcount := hread.trans (count_leaves is addReportsLost _)
  unfold displaceFor
  extract_lets s1 s2
  split
  · rename_i hroom
    exact hread.trans (appendRecord_leaves is r (s := s1) (l := s1.rep.records) fun _ => hroom)
  split
  · exact hcount
  · rename_i y hlow
    have hshort := length_without_lt (mem_of_mem_waitingRecords (lowestRanked_mem hlow))
    exact .ite (fun _ => hcount.trans (appendRecord_leaves is r fun hle => hshort.trans_le hle)) fun _ => hcount

theorem reportJoin_leaves (is : List (Fin 32)) (r : IndicationRecord) (s : State) : Leaves is s (reportJoin r s) := by
  unfold reportJoin
  split
  · rename_i hroom
    exact appendRecord_leaves is r (s := s) (l := s.rep.records) fun _ => hroom
  · exact displaceFor_leaves is r s

theorem markOffer_leaves (is : List (Fin 32)) (pos : Int) (s : State) : Leaves is s (markOffer pos s) := by
  have hread := readMarks_leaves is s
  refine .ite (fun _ => setMark_leaves is _ s) fun _ => .ite (fun _ => hread) fun _ => .ite (fun _ => ?_) fun _ =>
    hread.trans (count_leaves is _ _)
  exact (hread.trans (setMark_leaves is _ _)).trans (writeItem_leaves is _ (by unfold markBase; omega) 2)

theorem fifoJoin_leaves (is : List (Fin 32)) (w : WatchOut) (s : State) : Leaves is s (fifoJoin w s) := by
  have hset (l : List (Placed WatchOut)) : Leaves is s { s with link := { s.link with fifo := l } } := { Leaves.refl is s with }
  exact .ite (fun _ => (hset _).trans (writeItem_leaves is _ (by unfold fifoBase; omega) 4)) fun _ => count_leaves is _ s

theorem placeConf_leaves (is : List (Fin 32)) (e : ConfEntry) (s : State) : Leaves is s (placeConf e s) := by
  have hwrite (p : Nat) (t : State) : Leaves is t (writeItem (confBase p) 4 t) :=
    writeItem_leaves is t (by unfold confBase; omega) 4
  have happend (t : State) : Leaves is t (appendConf e t) := (setConf_leaves is _ t).trans (hwrite _ _)
  unfold placeConf
  split
  · exact (setConf_leaves is _ s).trans (hwrite _ _)
  · refine .ite (fun _ => happend s) fun _ => ?_
    split
    · exact (setConf_leaves is _ s).trans (happend _)
    · exact happend s

theorem confJoin_leaves (is : List (Fin 32)) (on : Bool) (e : ConfEntry) {s : State} (hs : Steady s) :
    Leaves is s (confJoin on e s) := by
  unfold confJoin
  rw [readStationFor_sound on hs.1 (hs.sound (by decide))]
  have hexpire (dir : Dir) (pr : Int) (sp : Nat) : Leaves is s (expireConf dir pr sp s) :=
    (readConf_leaves is s).trans (setConf_leaves is _ _)
  exact .ite (fun _ => hexpire _ _ _) fun _ => (hexpire _ _ _).trans (placeConf_leaves is e _)

theorem reportOutputs_leaves (is : List (Fin 32)) (e : Entry) (asev : Nat) (cause : ClosureCause) (source : Option (Nat × Nat))
    {s : State} (hs : Steady s) : Leaves is s (reportOutputs e asev cause source s) := by
  unfold reportOutputs
  rw [readStationFor_sound _ hs.1 (hs.sound (by decide))]
  exact .ite (fun _ => (reportJoin_leaves is _ s).trans (markOffer_leaves is _ _)) fun _ => reportJoin_leaves is _ s

theorem watchOutput_leaves (is : List (Fin 32)) (on : Bool) (e : Entry) {s : State} (hs : Steady s) :
    Leaves is s (watchOutput on e s) := by
  unfold watchOutput
  rw [readStationFor_sound _ hs.1 (hs.sound (by decide))]
  exact fifoJoin_leaves is _ s

theorem Steady.not_ended {s : State} (hs : Steady s) (cause : ClosureCause) : s.ended cause = false := by
  unfold State.ended State.stopped
  rw [show s.store.clearAtRelease = false from hs.1]
  rfl

/-- The outputs of a closure leave every index; then its index is freed. -/
theorem closureOutputs_leaves (i : Fin 32) (e : Entry) (r : SlotRecord) (cause : ClosureCause) (source : Option (Nat × Nat))
    {s : State} (hs : Steady s) : ∃ t, Leaves [] s t ∧ closureOutputs i e r cause source s = freeEntry i t := by
  unfold closureOutputs
  extract_lets o s1 s2 s3
  have hs1 : Leaves [] s s1 := .ite (fun _ => reportOutputs_leaves [] e r.asev cause source hs) fun _ => .refl [] s
  have hs2 : Leaves [] s s2 := .ite (fun _ => hs1.trans (watchOutput_leaves [] _ e (hs1.steady hs))) fun _ => hs1
  have hs3 : Leaves [] s s3 := .ite (fun _ => hs2.trans (confJoin_leaves [] _ _ (hs2.steady hs))) fun _ => hs2
  exact ⟨s3, hs3, by rw [(hs3.steady hs).not_ended, if_neg Bool.false_ne_true]⟩

/-! The closures. -/

/-- The closure of an open index: work that leaves the table, and then the index freed. -/
theorem closeEntry_eq (cause : ClosureCause) {i : Fin 32} {s : State} (hs : Steady s) {e : Entry} (he : s.trk.entries[i] = some e) :
    ∃ t, Leaves [] s t ∧ closeEntry cause i s = freeEntry i t := by
  unfold closeEntry
  rw [he]
  dsimp only
  rw [readStationFor_sound _ hs.1 (hs.sound (by decide))]
  dsimp only
  have hconf := readConf_leaves [] s
  have hslot := hconf.trans (readSlot_leaves [] e.slot (ks := [10, 11]) (by decide) (readConf s))
  split <;> rename_i heq <;> rw [heq] at hslot
  · exact ⟨_, hslot, rfl⟩
  · obtain ⟨t, ht, heq⟩ := closureOutputs_leaves i e _ cause _ (hslot.steady hs)
    exact ⟨t, hslot.trans ht, heq⟩

theorem closeEntry_of_none (cause : ClosureCause) {i : Fin 32} {s : State} (he : s.trk.entries[i] = none) : closeEntry cause i s = s := by
  unfold closeEntry
  rw [he]

/-- A closure frees its index and leaves every other one. -/
theorem closeEntry_frees (cause : ClosureCause) (i : Fin 32) {s : State} (hs : Steady s) :
    Leaves [i] s (closeEntry cause i s) ∧ (closeEntry cause i s).trk.entries[i] = none := by
  cases he : s.trk.entries[i] with
  | none =>
    rw [closeEntry_of_none cause he]
    exact ⟨.refl _ s, he⟩
  | some e =>
    obtain ⟨t, ht, heq⟩ := closeEntry_eq cause hs he
    rw [heq]
    exact ⟨(ht.mono nofun).trans (freeEntry_leaves i t), by rw [freeEntry_get, if_pos rfl]⟩

/-- A list of closures frees each of its indices and leaves every other one. -/
theorem closeRead_frees (cause : ClosureCause) (is : List (Fin 32)) {s : State} (hs : Steady s) :
    Leaves is s (closeRead cause is s) ∧ ∀ i ∈ is, (closeRead cause is s).trk.entries[i] = none := by
  unfold closeRead
  induction is generalizing s with
  | nil => exact ⟨.refl [] s, nofun⟩
  | cons i rest ih =>
    have hread := readEntries_leaves i s
    obtain ⟨hclose, hnone⟩ := closeEntry_frees cause i (hread.steady hs)
    have hfirst := hread.trans hclose
    obtain ⟨hrest, hfreed⟩ := ih (hfirst.steady hs)
    rw [List.foldl_cons, hs.not_ended, if_neg Bool.false_ne_true]
    refine ⟨(hfirst.mono ?_).trans (hrest.mono ?_), fun j hj => ?_⟩
    · exact fun j hj => List.mem_singleton.1 hj ▸ List.mem_cons_self
    · exact fun j hj => List.mem_cons_of_mem i hj
    · by_cases hjr : j ∈ rest
      · exact hfreed j hjr
      · rw [hrest.others j hjr]
        obtain rfl := (List.mem_cons.1 hj).resolve_right hjr
        exact hnone

theorem mem_allIndices (i : Fin 32) : i ∈ allIndices := by
  unfold allIndices
  exact List.mem_finRange i

/-- A sweep frees every index. -/
theorem sweep_frees (cause : ClosureCause) {s : State} (hs : Steady s) :
    Leaves allIndices s (sweep cause s) ∧ ∀ i : Fin 32, (sweep cause s).trk.entries[i] = none := by
  unfold sweep
  obtain ⟨hleaves, hfreed⟩ := closeRead_frees cause allIndices hs
  exact ⟨hleaves, fun i => hfreed i (mem_allIndices i)⟩

/-- Settles O37: every index is closed in turn, whatever its words and the lists' words hold. -/
theorem sweepsEmptyTheTable : Obligations.SweepsEmptyTheTable := by
  unfold Obligations.SweepsEmptyTheTable
  intro s s1 c cause hc htake hsound hcalm horder
  have hexec : exec c s = .next (release (sweep cause s1)) := by
    have hrun : runSweep cause s = release (sweep cause s1) := by
      unfold runSweep
      rw [htake]
    rw [← hrun]
    simp only [List.mem_cons, Prod.mk.injEq, List.not_mem_nil, or_false] at hc
    rcases hc with ⟨rfl, rfl⟩ | ⟨rfl, rfl⟩ | ⟨rfl, rfl⟩ <;> rfl
  have horder1 := (takeShot_keeps htake).order horder
  obtain ⟨-, left, -, hs1⟩ := takeShot_spec htake
  have hsteady : Steady s1 := by
    subst hs1
    exact ⟨hcalm, hsound⟩
  have hsame : s1.trk = s.trk ∧ s1.odo = s.odo ∧ s1.link = s.link ∧ s1.coup = s.coup ∧ s1.store.cells = s.store.cells := by
    subst hs1
    exact ⟨rfl, rfl, rfl, rfl, rfl⟩
  obtain ⟨htrk, hodo, hlink, hcoup, hcells⟩ := hsame
  obtain ⟨hleaves, hnone⟩ := sweep_frees cause hsteady
  have hlist : (sweep cause s1).trk.order = [] := by
    obtain ⟨-, hiff⟩ := (show Keeps s1 (sweep cause s1) from sweep_keeps cause s1).order horder1
    rw [List.eq_nil_iff_forall_not_mem]
    intro i hi
    have := (hiff i).1 hi
    rw [hnone i] at this
    cases this
  obtain ⟨g, r, k, q, a, w, hrelease⟩ := release_frame (s := sweep cause s1) (hleaves.steady hsteady).1
  refine ⟨_, hexec, ?_⟩
  rw [hrelease]
  clear hrelease hexec
  generalize sweep cause s1 = u at hleaves hnone hlist ⊢
  refine ⟨hnone, hlist, ?_, ?_, ?_, ?_, fun b hb => ?_⟩
  · exact hleaves.next.trans (by rw [htrk])
  · exact hleaves.odo.trans hodo
  · exact hleaves.run.trans (by rw [hlink])
  · exact hleaves.coup.trans hcoup
  · have hword := hleaves.station b (by omega)
    unfold State.word at hword ⊢
    rw [hcells] at hword
    exact hword

end Sys2Proof.Machine

end

section

/-! PROOFS. The coupling test and state (R93 to R98) and the gaps it opens, extends and closes (R103 to R105). -/

namespace Sys2Proof.Machine

theorem PerCause.ext_get {α : Type} {p q : PerCause α} (h : ∀ k, p.get k = q.get k) : p = q := by
  cases p
  cases q
  have h1 := h .overrun
  have h2 := h .port
  have h3 := h .store
  have h4 := h .coupling
  simp only [PerCause.get] at h1 h2 h3 h4
  rw [h1, h2, h3, h4]

theorem setCoupling_get (n m : Slot) (c : SlotCoupling) (s : State) :
    (setCoupling n c s).coup.slots[m] = if m = n then c else s.coup.slots[m] := put_get s.coup.slots n m c

theorem mem_openWhere {s : State} {f : Entry → Bool} {i : Fin 32} :
    i ∈ openWhere s f ↔ ∃ e, s.trk.entries[i] = some e ∧ f e = true := by
  unfold openWhere
  rw [List.mem_filter, and_iff_right (mem_allIndices i)]
  cases s.trk.entries[i] <;> simp

theorem couplingPass_iff (src : CouplingSource) (threshold : Nat) (ok : Bool) (g : GateResults) :
    couplingPass src threshold ok g = true ↔ ok = true ∧ g.noInterface = false ∧
      (src = .interface → ∃ a, g.i.amp = some a ∧ threshold ≤ a) ∧
      (src = .gateB → ∃ a, g.b.amp = some a ∧ threshold ≤ a) := by
  simp only [couplingPass, Bool.and_eq_true, Bool.not_eq_true']
  cases src with
  | interface => cases h : g.i.amp <;> simp [sourceAmp, h, and_assoc]
  | gateB => cases h : g.b.amp <;> simp [sourceAmp, h, and_assoc]
  | none => simp [sourceAmp]

/-- What an act of the coupling test makes of the COUPLING gap (R104). -/
def CouplingAct.gapMade (doubt : Option Int) (pos : Int) (g : Option Gap) : CouplingAct → Option Gap
  | .nothing => g
  | .extend => some ⟨(g.map (·.fromPos)).getD pos, pos⟩
  | .enterLost => some ⟨(g.map (·.fromPos)).getD (doubt.getD pos), pos⟩

/-- The slot's coupling after an act: at entry to LOST the doubt position is discarded (R104). -/
def CouplingAct.coupled (c : SlotCoupling) : CouplingAct → SlotCoupling
  | .nothing => c
  | .extend => c
  | .enterLost => { c with doubt := none }

/-- What the coupling test of a slot does with an act: the slot's coupling, its gaps, its open entries, and the rest. -/
structure Coupled (act : CouplingAct) (c : SlotCoupling) (n : Slot) (pos : Int) (closes : Bool) (s t : State) : Prop where
  slots : ∀ m : Slot, t.coup.slots[m] = if m = n then act.coupled c else s.coup.slots[m]
  gaps : ∀ (m : Slot) (k : GapCause), (t.coup.gaps[m]).get k =
    if closes = true ∧ m = n then none
    else if m = n ∧ k = .coupling then act.gapMade c.doubt pos ((s.coup.gaps[n]).get .coupling) else (s.coup.gaps[m]).get k
  noTransmit : t.coup.noTransmit = s.coup.noTransmit
  portFault : t.coup.portFault = s.coup.portFault
  odo : t.odo = s.odo
  shot : t.sched.shot = s.sched.shot
  run : t.link.run = s.link.run
  calm : t.store.clearAtRelease = s.store.clearAtRelease
  rest : act ≠ .enterLost → ∃ gaps slots c l u, t =
    { s with coup := { s.coup with gaps := gaps, slots := slots }, link := s.link.withGaps c l u }
  closed : act = .enterLost → ∀ (i : Fin 32) (e : Entry), s.trk.entries[i] = some e →
    (e.slot = n → t.trk.entries[i] = none) ∧ (e.slot ≠ n → t.trk.entries[i] = some e)

theorem Coupled.gaps_own {act : CouplingAct} {c : SlotCoupling} {n : Slot} {pos : Int} {closes : Bool} {s t : State}
    (h : Coupled act c n pos closes s t) (k : GapCause) : (t.coup.gaps[n]).get k =
      if closes = true then none else if k = .coupling then act.gapMade c.doubt pos ((s.coup.gaps[n]).get .coupling)
      else (s.coup.gaps[n]).get k := by
  rw [h.gaps n k]
  simp only [and_true, true_and]

/-- An act of the coupling test, after the slot's coupling has been replaced. -/
theorem couplingAct_coupled (act : CouplingAct) (c : SlotCoupling) (n : Slot) (pos : Int) {s : State} (hs : Steady s) :
    Coupled act c n pos false s (couplingAct act n pos (setCoupling n c s)) := by
  cases act with
  | nothing =>
    refine ⟨fun m => setCoupling_get n m c s, fun m k => ?_, rfl, rfl, rfl, rfl, rfl, rfl, fun _ => ⟨_, _, _, _, _, rfl⟩, nofun⟩
    show (s.coup.gaps[m]).get k = _
    split
    · rename_i h
      exact absurd h.1 Bool.false_ne_true
    · split
      · rename_i h
        rw [h.1, h.2]
        rfl
      · rfl
  | extend =>
    have hget := touchGap_get n (c := .coupling) (start := pos) (pos := pos) (s := setCoupling n c s)
    obtain ⟨g, x, l, u, heq⟩ := touchGap_gapWork n .coupling pos pos (setCoupling n c s)
    unfold couplingAct
    dsimp only
    refine ⟨fun m => ?_, fun m k => ?_, ?_, ?_, ?_, ?_, ?_, ?_, fun _ => ⟨g, put s.coup.slots n c, x, l, u, ?_⟩, nofun⟩
    · rw [heq]
      exact setCoupling_get n m c s
    · rw [hget]
      rfl
    all_goals rw [heq]
    all_goals rfl
  | enterLost =>
    have hs' : Steady (setCoupling n c s) := hs
    obtain ⟨hleaves, hfreed⟩ := closeRead_frees .coupling (openWhere (setCoupling n c s) fun e => e.slot == n) hs'
    have hstopped : (couplingClosures n (setCoupling n c s)).stopped = false := (hleaves.steady hs').1
    have hact : couplingAct .enterLost n pos (setCoupling n c s) =
        openCouplingGap n pos (couplingClosures n (setCoupling n c s)) := by
      unfold couplingAct
      dsimp only
      rw [hstopped, if_neg Bool.false_ne_true]
    rw [hact]
    have hclosures : closeRead .coupling (openWhere (setCoupling n c s) fun e => e.slot == n) (setCoupling n c s) =
        couplingClosures n (setCoupling n c s) := rfl
    rw [hclosures] at hleaves hfreed
    generalize couplingClosures n (setCoupling n c s) = u at hleaves hfreed ⊢
    have hcoup : u.coup = (setCoupling n c s).coup := hleaves.coup
    have hc : u.coup.slots[n] = c := by rw [hcoup, setCoupling_get, if_pos rfl]
    unfold openCouplingGap
    rw [hc]
    dsimp only
    have hget := touchGap_get n (c := .coupling) (start := c.doubt.getD pos) (pos := pos) (s := u)
    obtain ⟨g, x, l, v, heq⟩ := touchGap_gapWork n .coupling (c.doubt.getD pos) pos u
    refine ⟨fun m => ?_, fun m k => ?_, ?_, ?_, ?_, ?_, ?_, ?_, fun h => absurd rfl h, fun _ i e he => ⟨fun hn => ?_, fun hn => ?_⟩⟩
    · rw [setCoupling_get, heq, hcoup]
      split
      · rfl
      · rename_i hm
        exact (setCoupling_get n m c s).trans (if_neg hm)
    · have hsame : (setCoupling n { c with doubt := none } (touchGap n .coupling (c.doubt.getD pos) pos u)).coup.gaps =
          (touchGap n .coupling (c.doubt.getD pos) pos u).coup.gaps := rfl
      rw [hsame, hget, hcoup]
      rfl
    · have h := congrArg CouplingUnit.noTransmit hcoup
      rw [heq]
      exact h
    · have h := congrArg CouplingUnit.portFault hcoup
      rw [heq]
      exact h
    · rw [heq]
      exact hleaves.odo
    · rw [heq]
      exact hleaves.shot
    · rw [heq]
      exact hleaves.run
    · rw [heq]
      exact hleaves.calm
    · rw [heq]
      exact hfreed i (mem_openWhere.2 ⟨e, he, by rw [hn, beq_self_eq_true]⟩)
    · rw [heq]
      refine (hleaves.others i fun hi => hn ?_).trans he
      obtain ⟨e', he', hslot⟩ := mem_openWhere.1 hi
      have hee : e' = e := Option.some.inj (he'.symm.trans he)
      rw [← hee]
      exact eq_of_beq hslot

/-- A valid shot then closes every gap of its slot (R105). -/
theorem Coupled.closeGaps {act : CouplingAct} {c : SlotCoupling} {n : Slot} {pos : Int} {s t : State} (h : Coupled act c n pos false s t) :
    Coupled act c n pos true s (closeGaps n t) := by
  have hget := closeGaps_get n (s := t)
  obtain ⟨g, x, l, u, heq⟩ := closeGaps_gapWork n t
  refine ⟨fun m => ?_, fun m k => ?_, ?_, ?_, ?_, ?_, ?_, ?_, fun hact => ?_, fun hact i e he => ?_⟩
  · rw [heq]
    exact h.slots m
  · rw [hget, h.gaps m k]
    simp
  · rw [heq]
    exact h.noTransmit
  · rw [heq]
    exact h.portFault
  · rw [heq]
    exact h.odo
  · rw [heq]
    exact h.shot
  · rw [heq]
    exact h.run
  · rw [heq]
    exact h.calm
  · obtain ⟨g', v, x', l', u', hrest⟩ := h.rest hact
    rw [heq, hrest]
    exact ⟨_, _, _, _, _, rfl⟩
  · rw [heq]
    exact h.closed hact i e he

/-- The coupling test of a shot that is no settle shot. -/
theorem coupleShot_coupled {s : State} (hs : Steady s) {shot : ShotRecord} (r : SlotRecord) (g : GateResults) (hsettle : shot.settle = false) :
    let c := s.coup.slots[shot.slot]
    let pass := couplingPass c.source r.couplingThreshold shot.transmitted g
    let q := couplingNext c pass r.lossRun r.recoveryRun shot.firePos
    (coupleShot shot r g s).2 = verdictOf pass q.1.state ∧
      Coupled q.2 q.1 shot.slot shot.firePos (verdictOf pass q.1.state).observed s (coupleShot shot r g s).1 := by
  intro c pass q
  have heq : coupleShot shot r g s = (if (verdictOf pass q.1.state).observed then
      closeGaps shot.slot (couplingAct q.2 shot.slot shot.firePos (setCoupling shot.slot q.1 s))
      else couplingAct q.2 shot.slot shot.firePos (setCoupling shot.slot q.1 s), verdictOf pass q.1.state) := by
    unfold coupleShot
    rw [hsettle, if_neg Bool.false_ne_true]
  have hact := couplingAct_coupled q.2 q.1 shot.slot shot.firePos hs
  rw [heq]
  refine ⟨rfl, ?_⟩
  dsimp only
  cases (verdictOf pass q.1.state).observed with
  | true => exact hact.closeGaps
  | false => exact hact

/-- The twelve rows of the state table (R95, R96), with what each does beside the change of state. -/
theorem couplingNext_enters (c : SlotCoupling) (pass : Bool) (lossRun recoveryRun : Nat) (pos : Int) :
    (couplingNext c pass lossRun recoveryRun pos).2 = .enterLost ↔
      pass = false ∧ ((c.state = .coupled ∧ lossRun ≤ 1) ∨ (c.state = .doubtful ∧ lossRun ≤ c.failRun + 1)) := by
  unfold couplingNext
  repeat' split
  all_goals simp [*]

/-- A shot that leaves its slot COUPLED or DOUBTFUL does nothing beside the change of state. -/
theorem couplingNext_quiet {c : SlotCoupling} {pass : Bool} {lossRun recoveryRun : Nat} {pos : Int} {q : SlotCoupling × CouplingAct}
    (h : couplingNext c pass lossRun recoveryRun pos = q) (hquiet : q.1.state = .coupled ∨ q.1.state = .doubtful) :
    q.2 = .nothing := by
  subst h
  revert hquiet
  unfold couplingNext
  repeat' split
  all_goals simp [*]

/-- The verdict of a tested shot that no gap stands against (R98). -/
theorem verdictOf_observed (pass : Bool) (state : CouplingState) :
    (verdictOf pass state).observed = true ↔ pass = true ∧ state = .coupled := by
  simp [verdictOf]

/-- Settles O31: the act of each row, then the gaps by the verdict. -/
theorem couplingTable : Obligations.CouplingTable := by
  refine ⟨couplingPass_iff, ?_⟩
  intro s shot r g hcalm hstation hdamaged n c pass t v after gap extended enters
  have hs : Steady s := ⟨hcalm, hstation⟩
  cases hsettle : shot.settle with
  | true =>
    have heq : coupleShot shot r g s = (s, verdictOf pass c.state) := by
      unfold coupleShot
      rw [hsettle, if_pos rfl]
    have ht : t = s := congrArg Prod.fst heq
    have hv : v = verdictOf pass c.state := congrArg Prod.snd heq
    have hafter : after = c := congrArg (fun u : State => u.coup.slots[n]) ht
    rw [hv, hafter, ht]
    exact ⟨rfl, rfl, verdictOf_observed _ _, fun _ => rfl, fun _ _ => ⟨rfl, rfl⟩, rfl, rfl, rfl, rfl,
      fun _ => ⟨rfl, rfl, rfl, rfl, rfl⟩, nofun⟩
  | false =>
    obtain ⟨hv, ht⟩ := coupleShot_coupled hs r g hsettle
    have henters := couplingNext_enters c pass r.lossRun r.recoveryRun shot.firePos
    have hobserved (state : CouplingState) := verdictOf_observed pass state
    generalize hq : couplingNext c pass r.lossRun r.recoveryRun shot.firePos = q at hv ht henters
    have hafter : after = q.2.coupled q.1 := (ht.slots n).trans (if_pos rfl)
    have hstate : after.state = q.1.state := by
      rw [hafter]
      cases q.2 <;> rfl
    have hgap (k : GapCause) : (t.coup.gaps[n]).get k = if (verdictOf pass q.1.state).observed = true then none
        else if k = .coupling then q.2.gapMade q.1.doubt shot.firePos ((s.coup.gaps[n]).get .coupling)
        else (s.coup.gaps[n]).get k :=
      ht.gaps_own k
    have row {x : SlotCoupling} {act : CouplingAct} (h : couplingNext c pass r.lossRun r.recoveryRun shot.firePos = (x, act)) :
        after = act.coupled x ∧ (¬(pass = true ∧ x.state = .coupled) →
          gap = act.gapMade x.doubt shot.firePos ((s.coup.gaps[n]).get .coupling)) := by
      obtain rfl : q = (x, act) := hq.symm.trans h
      refine ⟨hafter, fun hno => (hgap .coupling).trans ?_⟩
      rw [if_neg (fun hobs => hno ((hobserved _).1 hobs)), if_pos rfl]
    have hlast {x : SlotCoupling} (h : couplingNext c pass r.lossRun r.recoveryRun shot.firePos = (x, .extend))
        (hno : ¬(pass = true ∧ x.state = .coupled)) : after = x ∧ extended := by
      obtain ⟨ha, hg⟩ := row h
      exact ⟨ha, (hg hno).trans (gapAfter_true trivial _ _).symm⟩
    refine ⟨?_, ?_, ?_, nofun, fun m hm => ⟨(ht.slots m).trans (if_neg hm), PerCause.ext_get fun k => ?_⟩, ht.noTransmit,
      ht.portFault, ht.odo, ht.shot, fun hno => ?_, fun _ => ⟨fun hent => ?_, fun hpass hst => ?_, fun hpass hst hrun => ?_,
      fun hpass hst => ?_, fun hpass hst hrun => ?_, fun hpass hst hrun => ?_, fun hpass hst hrun => ?_, fun hpass hst => ?_,
      fun hpass hst hrun => ?_, fun hpass hst hrun => ?_, fun hpass hst => ?_, fun hobs k => ?_, fun hobs k hk => ?_,
      fun hobs hquiet => ?_⟩⟩
    · rw [show v = _ from hv]
      rfl
    · rw [show v = _ from hv, hstate]
      rfl
    · rw [show v = _ from hv, hstate]
      exact hobserved _
    · rw [ht.gaps m k, if_neg (fun h => hm h.2), if_neg (fun h => hm h.1)]
    · obtain ⟨gaps, slots, k, l, u, heq⟩ := ht.rest (fun h => hno (henters.1 h))
      have heq : t = _ := heq
      rw [heq]
      exact ⟨rfl, rfl, rfl, rfl, rfl⟩
    · have hentered {x : SlotCoupling} (h : couplingNext c pass r.lossRun r.recoveryRun shot.firePos = (x, .enterLost))
          (hlost : x.state = .lost) (hdoubt : x.doubt = c.doubt) : after = { x with doubt := none } ∧
            gap = some { fromPos := (((s.coup.gaps[n]).get .coupling).map (·.fromPos)).getD (c.doubt.getD shot.firePos),
                         toPos := shot.firePos } := by
        obtain ⟨ha, hg⟩ := row h
        refine ⟨ha, (hg (by simp [hlost])).trans ?_⟩
        rw [← hdoubt]
        rfl
      have hclosed := ht.closed (henters.2 hent)
      obtain ⟨hpass, ⟨hst, hrun⟩ | ⟨hst, hrun⟩⟩ := hent
      · obtain ⟨ha, hg⟩ := hentered (x := { c with state := .lost })
          (by simp only [couplingNext, hst, hpass, if_pos hrun]) rfl rfl
        refine ⟨?_, hg, hclosed⟩
        rw [ha, hst, if_neg nofun]
      · obtain ⟨ha, hg⟩ := hentered (x := { c with state := .lost, failRun := 0 })
          (by simp only [couplingNext, hst, hpass, if_pos hrun]) rfl rfl
        refine ⟨?_, hg, hclosed⟩
        rw [ha, hst, if_pos rfl]
    · exact (row (x := c) (act := .nothing)
        (by simp only [couplingNext, hst, hpass])).1
    · exact (row (x := { c with state := .doubtful, failRun := 1, doubt := some shot.firePos }) (act := .nothing)
        (by simp only [couplingNext, hst, hpass, if_neg (Nat.not_le.2 hrun)])).1
    · exact (row (x := { c with state := .coupled, failRun := 0, doubt := none }) (act := .nothing)
        (by simp only [couplingNext, hst, hpass])).1
    · exact (row (x := { c with failRun := c.failRun + 1 }) (act := .nothing)
        (by simp only [couplingNext, hst, hpass, if_neg (Nat.not_le.2 hrun)])).1
    · exact (row (x := { c with state := .coupled }) (act := .nothing)
        (by simp only [couplingNext, hst, hpass, if_pos hrun])).1
    · exact hlast (by simp only [couplingNext, hst, hpass, if_neg (Nat.not_le.2 hrun)]) (by simp)
    · exact hlast (by simp only [couplingNext, hst, hpass]) (by simp [hpass])
    · exact (row (x := { c with state := .coupled, passRun := 0 }) (act := .nothing)
        (by simp only [couplingNext, hst, hpass, if_pos hrun])).1
    · exact hlast (by simp only [couplingNext, hst, hpass, if_neg (Nat.not_le.2 hrun)]) (by simp [hst])
    · exact hlast (by simp only [couplingNext, hst, hpass]) (by simp)
    · rw [hgap, if_pos (by rw [← show v = _ from hv]; exact hobs)]
    · rw [hgap, if_neg (by rw [← show v = _ from hv, hobs]; exact Bool.false_ne_true), if_neg hk]
    · have hnot : ¬(verdictOf pass q.1.state).observed = true := by
        rw [← show v = _ from hv, hobs]
        exact Bool.false_ne_true
      refine (hgap .coupling).trans ?_
      rw [if_neg hnot, if_pos rfl]
      have hact : q.2 = .nothing := couplingNext_quiet hq (hstate ▸ hquiet)
      rw [hact]
      rfl

end Sys2Proof.Machine

end

section

/-! PROOFS. The processing of a shot (R57, R71, R90, R98, R172), stage by stage, on sound words and at damage in the slot's record. -/

namespace Sys2Proof.Machine

/-! The stages on sound words. -/

theorem Sound.mono {s : State} {as bs : List Nat} (h : Sound s as) (hsub : ∀ b ∈ bs, b ∈ as) : Sound s bs :=
  fun b hb => h b (hsub b hb)

theorem SoundSlot.mono {s : State} {n : Slot} {ks js : List Nat} (h : SoundSlot s n ks) (hsub : ∀ k ∈ js, k ∈ ks) :
    SoundSlot s n js := Sound.mono h fun b hb => by
  obtain ⟨k, hk, rfl⟩ := List.mem_map.1 hb
  exact List.mem_map_of_mem (hsub k hk)

/-- The curve of a shot in processing (R59, R62, R70). -/
theorem shotCurve_taken {s : State} {n : Slot} (hcurve : SoundCurve s n) :
    shotCurve s.gain.takenFlat (slotAt s n).area s = (s, curveOf s n, flatOf s n) := by
  cases hmark : s.gain.takenFlat with
  | true => simp [shotCurve, curveOf, flatOf, hmark]
  | false =>
    cases harea : (slotAt s n).area with
    | none => simp [shotCurve, curveOf, flatOf, hmark, harea]
    | some a =>
      obtain ⟨hno, hyes, -⟩ := shotCurve_some a s
      cases hw : written s a with
      | false =>
        have hflat : flatOf s n = true := by simp [flatOf, hmark, harea, hw]
        rw [hno hw, curveOf, hflat, if_pos rfl]
      | true =>
        have hflat : flatOf s n = false := by simp [flatOf, hmark, harea, hw]
        rw [hyes hw (hcurve hflat a harea), curveOf, hflat, if_neg Bool.false_ne_true, harea]

/-- The record of a slot as the reads of words 0 to 9 give it: it differs from the stored one in its thresholds alone. -/
theorem slotRead_ten (n : Slot) (s : State) :
    slotRead n (List.range 10) s = { slotAt s n with
      nrep := (slotRead n (List.range 10) s).nrep, nwatch := (slotRead n (List.range 10) s).nwatch
      arep := (slotRead n (List.range 10) s).arep, awatch := (slotRead n (List.range 10) s).awatch
      asev := (slotRead n (List.range 10) s).asev } := by
  rw [slotAt_eq]
  exact slotBy_congr fun k hk => by rw [if_pos (List.mem_range.2 hk)]

/-- The coupling test takes three fields of the slot record. -/
theorem coupleShot_congr (rec : ShotRecord) {r r' : SlotRecord} (g : GateResults) (s : State)
    (h1 : r.couplingThreshold = r'.couplingThreshold) (h2 : r.lossRun = r'.lossRun) (h3 : r.recoveryRun = r'.recoveryRun) :
    coupleShot rec r g s = coupleShot rec r' g s := by
  unfold coupleShot
  rw [h1, h2, h3]

/-- The hits of a shot in processing (R83 to R89). -/
def hitsAt (s : State) (rec : ShotRecord) : List Hit :=
  hitsOf (locatedOf rec (slotAt s rec.slot) (flatOf s rec.slot) s)
    (gainPeaks rec (slotAt s rec.slot).baseGain (curveOf s rec.slot) (flatOf s rec.slot)) (resultsOf s rec)

/-- The hand-over of a shot in processing (R90). -/
def handOverAt (s : State) (rec : ShotRecord) (v : Verdict) : HandOver :=
  { record := rec, results := resultsOf s rec, hits := hitsAt s rec, verdict := v }

theorem testShot_sound {s : State} {rec : ShotRecord} (g : GateResults) (hits : List Hit) (hslot : SoundSlot s rec.slot (List.range 10)) :
    testShot rec g hits s =
      if s.sched.storeDamaged[rec.slot] = true then s
      else
        let q := coupleShot rec (slotAt s rec.slot) g s
        if q.1.stopped then q.1 else handShot { record := rec, results := g, hits := hits, verdict := q.2 } q.1 := by
  unfold testShot
  rw [readSlot_sound (hslot.mono (by decide))]
  dsimp only
  rw [coupleShot_congr rec g s (slotRead_couplingThreshold (by decide)) (slotRead_lossRun (by decide))
    (slotRead_recoveryRun (by decide))]

/-- The processing of a shot on sound words, up to its hand-over (R57, R62, R71, R93). -/
theorem gainShot_sound {s : State} {rec : ShotRecord} (hslot : SoundSlot s rec.slot (List.range 10)) (hcurve : SoundCurve s rec.slot) :
    gainShot rec s =
      if s.sched.storeDamaged[rec.slot] = true then s
      else
        let q := coupleShot rec (slotAt s rec.slot) (resultsOf s rec) s
        if q.1.stopped then q.1 else handShot (handOverAt s rec q.2) q.1 := by
  have hgates : gateShot rec (gainPeaks rec (slotAt s rec.slot).baseGain (curveOf s rec.slot) (flatOf s rec.slot))
      (flatOf s rec.slot) s = testShot rec (resultsOf s rec) (hitsAt s rec) s := by
    unfold gateShot
    rw [readSlot_sound hslot]
    dsimp only
    rw [slotRead_ten]
    rfl
  unfold gainShot
  rw [readSlot_sound (hslot.mono (by decide))]
  dsimp only
  rw [slotRead_area (by decide), shotCurve_taken hcurve]
  dsimp only
  rw [slotRead_baseGain (by decide), hgates, testShot_sound _ _ hslot]
  rfl

/-! The hand-over. -/

/-- Auto-zero changes working wedge delays and zero-failed marks alone (R33). -/
theorem autoZero_frame (h : HandOver) (s : State) :
    ∃ w z, autoZero h s = { s with sched := { s.sched with wedge := w, zeroFailed := z } } ∧
      ((h.record.settle && h.record.autoZero) = false → w = s.sched.wedge ∧ z = s.sched.zeroFailed) ∧
      ((h.record.settle && h.record.autoZero) = true → (h.results.i.time = none →
          w = s.sched.wedge ∧ z = put s.sched.zeroFailed h.record.slot true) ∧
        ∀ time, h.results.i.time = some time → w = put s.sched.wedge h.record.slot (min 4095 time) ∧
          z = if 4095 < time then put s.sched.zeroFailed h.record.slot true else s.sched.zeroFailed) := by
  unfold autoZero
  cases (h.record.settle && h.record.autoZero) with
  | false => exact ⟨_, _, rfl, fun _ => ⟨rfl, rfl⟩, nofun⟩
  | true =>
    cases h.results.i.time with
    | none => exact ⟨_, _, rfl, nofun, fun _ => ⟨fun _ => ⟨rfl, rfl⟩, nofun⟩⟩
    | some time =>
      refine ⟨_, _, rfl, nofun, fun _ => ⟨nofun, fun x hx => ?_⟩⟩
      obtain rfl := Option.some.inj hx
      exact ⟨rfl, rfl⟩

/-- The answer to a held request (R37). -/
theorem answerRequest_frame (h : HandOver) (s : State) :
    ∃ q b, answerRequest h s = { s with sched := { s.sched with request := q }, link := { s.link with shotBuf := b } } ∧
      (s.sched.request = some h.record.slot → q = none ∧ b = some { record := h.record, results := h.results }) ∧
      (s.sched.request ≠ some h.record.slot → q = s.sched.request ∧ b = s.link.shotBuf) := by
  unfold answerRequest
  by_cases hreq : s.sched.request = some h.record.slot
  · rw [if_pos hreq]
    exact ⟨_, _, rfl, fun _ => ⟨rfl, rfl⟩, fun hno => absurd hreq hno⟩
  · rw [if_neg hreq]
    exact ⟨_, _, rfl, fun hyes => absurd hyes hreq, fun _ => ⟨rfl, rfl⟩⟩

/-- A shot that is a settle shot or not observed is not tracked (R108). -/
theorem feed_untracked {h : HandOver} {s : State} (hstation : Sound s [0]) (hslot : SoundSlot s h.record.slot (List.range 10))
    (hno : h.record.settle = true ∨ h.verdict.observed = false) : feed h s = s := by
  unfold feed
  cases s.link.present with
  | false => rfl
  | true =>
    rw [if_pos rfl, readStation_sound hstation]
    dsimp only
    rw [readSlot_sound (hslot.mono (by decide))]
    dsimp only
    have hfeed : feedStation h (stationRead [0] s) s = false := by
      unfold feedStation
      rcases hno with hno | hno <;> rw [hno] <;> simp
    rw [hfeed]
    rfl

/-! The access of a shot's processing. -/

theorem exec_shotProcessing {s s1 : State} {rec : ShotRecord} (htake : takeShot asProcessing s = some ((), s1))
    (hproc : s.gain.processing = some rec) : exec .shotProcessing s = .next (release (takeNext (gainShot rec s1))) := by
  obtain ⟨-, left, -, hs1⟩ := takeShot_spec htake
  have hproc1 : s1.gain.processing = some rec := by
    subst hs1
    exact hproc
  have hexec : exec .shotProcessing s = execShotProcessing s := rfl
  rw [hexec]
  unfold execShotProcessing
  rw [htake]
  dsimp only
  rw [hproc1]

/-- The taking of the next record, and the release (R57, R62). -/
theorem takeNext_frame {s : State} (hcalm : Calm s) :
    ∃ f g r k q a w, release (takeNext s) = { s with
      gain := { s.gain with processing := s.gain.queue.head?, queue := s.gain.queue.tail, takenFlat := f }
      store := { s.store with
        shotReqs := asked s.store.shotReqs (s.gain.queue.head?.toList.map fun _ => .processing)
        grant := g, grantRun := r, grantShots := k, scrubReq := q }
      link := { s.link with access := a, wait := w } } ∧
      ∀ x ∈ s.gain.queue.head?, f = decide (s.gain.flat[x.slot] ≠ .clear) := by
  unfold takeNext
  cases hqueue : s.gain.queue with
  | nil =>
    dsimp only
    obtain ⟨g, r, k, q, a, w, h⟩ := release_frame (s := { s with gain := { s.gain with processing := none } }) hcalm
    rw [h]
    refine ⟨s.gain.takenFlat, g, r, k, q, a, w, ?_, nofun⟩
    have hgain : ({ s.gain with processing := none } : GainUnit) =
        { s.gain with processing := none, queue := [], takenFlat := s.gain.takenFlat } := by rw [← hqueue]
    dsimp only at hgain ⊢
    rw [hgain]
    rfl
  | cons x rest =>
    dsimp only
    obtain ⟨g, r, k, q, a, w, h⟩ := release_frame (s := raise .processing { s with gain := { s.gain with
      processing := some x, queue := rest, takenFlat := decide (s.gain.flat[x.slot] ≠ .clear) } }) hcalm
    rw [h]
    refine ⟨_, g, r, k, q, a, w, rfl, fun y hy => ?_⟩
    obtain rfl := Option.some.inj hy
    rfl

/-! A shot that is not tracked. -/

/-- What the processing of an untracked shot leaves before the next record is taken: coupling as its test gives it, and
auto-zero's and the held request's outcome. -/
def UntrackedShot (rec : ShotRecord) (results : GateResults) (coup : CouplingUnit) (s u : State) : Prop :=
  ∃ w z q b, u = { s with coup := coup, sched := { s.sched with wedge := w, zeroFailed := z, request := q },
                          link := { s.link with shotBuf := b } } ∧
    ((rec.settle && rec.autoZero) = false → w = s.sched.wedge ∧ z = s.sched.zeroFailed) ∧
    ((rec.settle && rec.autoZero) = true → (results.i.time = none →
        w = s.sched.wedge ∧ z = put s.sched.zeroFailed rec.slot true) ∧
      ∀ time, results.i.time = some time → w = put s.sched.wedge rec.slot (min 4095 time) ∧
        z = if 4095 < time then put s.sched.zeroFailed rec.slot true else s.sched.zeroFailed) ∧
    (s.sched.request = some rec.slot → q = none ∧ b = some { record := rec, results := results }) ∧
    (s.sched.request ≠ some rec.slot → q = s.sched.request ∧ b = s.link.shotBuf)

theorem handShot_untracked {s : State} {h : HandOver} (hstation : Sound s [0])
    (hslot : SoundSlot s h.record.slot (List.range 10)) (hno : h.record.settle = true ∨ h.verdict.observed = false) :
    UntrackedShot h.record h.results s.coup s (handShot h s) := by
  obtain ⟨w, z, hzero, hzno, hzyes⟩ := autoZero_frame h s
  obtain ⟨q, b, hanswer, hqyes, hqno⟩ := answerRequest_frame h (autoZero h s)
  unfold handShot
  rw [hanswer, feed_untracked (by rw [hzero]; exact hstation) (by rw [hzero]; exact hslot) hno]
  rw [hzero] at hqyes hqno ⊢
  exact ⟨w, z, q, b, rfl, hzno, hzyes, hqyes, hqno⟩

/-- A settle shot changes no coupling (R94). -/
theorem gainShot_settle {s : State} {rec : ShotRecord} (hslot : SoundSlot s rec.slot (List.range 10)) (hcurve : SoundCurve s rec.slot)
    (hstation : Sound s [0]) (hcalm : Calm s) (hlive : s.sched.storeDamaged[rec.slot] = false) (hsettle : rec.settle = true) :
    UntrackedShot rec (resultsOf s rec) s.coup s (gainShot rec s) := by
  have hcouple : ∃ v, coupleShot rec (slotAt s rec.slot) (resultsOf s rec) s = (s, v) := by
    unfold coupleShot
    dsimp only
    rw [if_pos hsettle]
    exact ⟨_, rfl⟩
  obtain ⟨v, hcouple⟩ := hcouple
  rw [gainShot_sound hslot hcurve, hlive, if_neg Bool.false_ne_true]
  dsimp only
  rw [hcouple, show s.stopped = false from hcalm, if_neg Bool.false_ne_true]
  exact handShot_untracked (h := handOverAt s rec v) hstation hslot (.inl hsettle)

/-- The coupling of a slot that goes from COUPLED to DOUBTFUL (R95). -/
def SlotCoupling.doubted (c : SlotCoupling) (pos : Int) : SlotCoupling :=
  { c with state := .doubtful, failRun := 1, doubt := some pos }

/-- A shot whose pulse did not leave, in a slot COUPLED with a loss run above 1, makes it DOUBTFUL (R93, R95). -/
theorem gainShot_fails {s : State} {rec : ShotRecord} (hslot : SoundSlot s rec.slot (List.range 10)) (hcurve : SoundCurve s rec.slot)
    (hstation : Sound s [0]) (hcalm : Calm s) (hlive : s.sched.storeDamaged[rec.slot] = false) (hsettle : rec.settle = false)
    (hsent : rec.transmitted = false) (hstate : s.coup.slots[rec.slot].state = .coupled)
    (hrun : 2 ≤ (slotAt s rec.slot).lossRun) :
    UntrackedShot rec (resultsOf s rec) { s.coup with
      slots := put s.coup.slots rec.slot (s.coup.slots[rec.slot].doubted rec.firePos) } s (gainShot rec s) := by
  have hpass : couplingPass s.coup.slots[rec.slot].source (slotAt s rec.slot).couplingThreshold rec.transmitted (resultsOf s rec) =
      false := by
    rw [hsent]
    rfl
  have hnext : couplingNext s.coup.slots[rec.slot] false (slotAt s rec.slot).lossRun (slotAt s rec.slot).recoveryRun rec.firePos =
      (s.coup.slots[rec.slot].doubted rec.firePos, .nothing) := by
    simp only [couplingNext, SlotCoupling.doubted, hstate, if_neg (Nat.not_le.2 hrun)]
  have hcouple : coupleShot rec (slotAt s rec.slot) (resultsOf s rec) s = (setCoupling rec.slot
      (s.coup.slots[rec.slot].doubted rec.firePos) s, verdictOf false .doubtful) := by
    unfold coupleShot
    dsimp only
    rw [hsettle, if_neg Bool.false_ne_true, hpass, hnext]
    rfl
  rw [gainShot_sound hslot hcurve, hlive, if_neg Bool.false_ne_true]
  dsimp only
  rw [hcouple]
  dsimp only
  rw [show (setCoupling rec.slot _ s).stopped = false from hcalm, if_neg Bool.false_ne_true]
  exact handShot_untracked (h := handOverAt s rec (verdictOf false .doubtful)) hstation hslot (.inr rfl)

/-- Settles O29: an untracked shot, then the next record. -/
theorem untrackedShotsAreProcessed : Obligations.UntrackedShotsAreProcessed := by
  intro s s1 rec htake hproc hslot hcurve hstation hcalm hlive n results fails hcase
  have hexec := exec_shotProcessing htake hproc
  obtain ⟨-, left, -, hs1⟩ := takeShot_spec htake
  have hslot1 : SoundSlot s1 rec.slot (List.range 10) := by subst hs1; exact hslot
  have hcurve1 : SoundCurve s1 rec.slot := by subst hs1; exact hcurve
  have hstation1 : Sound s1 [0] := by subst hs1; exact hstation
  have hcalm1 : Calm s1 := by subst hs1; exact hcalm
  have hlive1 : s1.sched.storeDamaged[rec.slot] = false := by subst hs1; exact hlive
  have hresults : resultsOf s1 rec = results := by subst hs1; rfl
  have hwork : ∃ coup, UntrackedShot rec results coup s1 (gainShot rec s1) ∧ (rec.settle = true → coup = s.coup) ∧
      (fails → coup = { s.coup with
        slots := put s.coup.slots n (s.coup.slots[n].doubted rec.firePos) }) := by
    rw [← hresults]
    rcases hcase with hsettle | hfails
    · refine ⟨s1.coup, gainShot_settle hslot1 hcurve1 hstation1 hcalm1 hlive1 hsettle, fun _ => ?_, fun hf => ?_⟩
      · subst hs1; rfl
      · exact absurd (hsettle.symm.trans hf.1) (by decide)
    · obtain ⟨hsettle, hsent, hstate, hrun⟩ := hfails
      refine ⟨_, gainShot_fails hslot1 hcurve1 hstation1 hcalm1 hlive1 hsettle hsent (by subst hs1; exact hstate)
        (by subst hs1; exact hrun), fun h => absurd (hsettle.symm.trans h) (by decide), fun _ => ?_⟩
      subst hs1
      rfl
  obtain ⟨coup, ⟨w, z, q, b, hu, hzno, hzyes, hqyes, hqno⟩, hsame, hdoubtful⟩ := hwork
  have hcalmu : Calm (gainShot rec s1) := by
    rw [hu]
    exact hcalm1
  obtain ⟨f, g, r, k, sq, a, wt, hframe, hflat⟩ := takeNext_frame hcalmu
  refine ⟨_, hexec, ?_⟩
  rw [hframe]
  rw [hu] at hflat ⊢
  clear hframe hexec hu hcalmu
  have hsched : s1.sched = s.sched := by subst hs1; rfl
  have hlink : s1.link = s.link := by subst hs1; rfl
  have hgaps : coup.gaps = s.coup.gaps := by
    rcases hcase with hsettle | hfails
    · rw [hsame hsettle]
    · rw [hdoubtful hfails]
  have hkeep : s1.trk = s.trk ∧ s1.conf = s.conf ∧ s1.rep = s.rep ∧ s1.mark = s.mark ∧ s1.odo = s.odo ∧
      s1.store.cells = s.store.cells ∧ s1.gain = s.gain := by
    subst hs1
    exact ⟨rfl, rfl, rfl, rfl, rfl, rfl, rfl⟩
  obtain ⟨htrk, hconf, hrep, hmark, hodo, hcells, hgain⟩ := hkeep
  rw [hsched] at hzno hzyes hqyes hqno
  rw [hlink] at hqno
  dsimp only at hflat ⊢
  rw [hgain] at hflat ⊢
  refine ⟨rfl, rfl, hflat, rfl, hgaps, htrk, hconf, hrep, hmark, hodo, hcells, by rw [hlink], hqyes, hqno, fun hf => ?_,
    fun hsettle => ⟨hsame hsettle, fun hauto => ?_, fun hauto hnone => ?_, fun time hauto htime => ?_⟩⟩
  · obtain ⟨hw, hz⟩ := hzno (by rw [hf.1]; rfl)
    refine ⟨hw, hz, ?_, fun m hm => ?_⟩
    · rw [hdoubtful hf]
      exact (put_get _ n n _).trans (if_pos rfl)
    · rw [hdoubtful hf]
      exact (put_get _ n m _).trans (if_neg hm)
  · exact hzno (by rw [hauto, Bool.and_false])
  · obtain ⟨hw, hz⟩ := (hzyes (by rw [hsettle, hauto]; rfl)).1 hnone
    refine ⟨hw, ?_⟩
    rw [hz]
    exact (put_get _ _ n _).trans (if_pos rfl)
  · obtain ⟨hw, hz⟩ := (hzyes (by rw [hsettle, hauto]; rfl)).2 time htime
    refine ⟨?_, ?_⟩
    · rw [hw]
      exact (put_get _ _ n _).trans (if_pos rfl)
    · rw [hz]
      split
      · rename_i hlt
        rw [decide_eq_true hlt, Bool.or_true]
        exact (put_get _ _ n _).trans (if_pos rfl)
      · rename_i hlt
        rw [decide_eq_false hlt, Bool.or_false]

/-! Damage in the slot's record. -/

/-- The reads of a slot's record end at its first word with two changed bits, and the slot is store-damaged (R35, R167). -/
theorem readSlot_damaged {s : State} {n : Slot} {before after : List Nat} {k : Nat} (hk : k < 24) (hsound : SoundSlot s n before)
    (hdouble : bitCount 39 (s.word (slotBase n + k)).changed = 2) :
    readSlot n (before ++ k :: after) s = (damageSlot n (s.count addStoreUncorrectable), none) := by
  have hbase : slotBase n = 16 + 24 * n.val := rfl
  rw [readSlot, List.map_append, List.map_cons, readWords_damaged hsound hdouble,
    readDouble_slot (n := n) s (by omega) (by omega)]

/-- The processing of a shot ends at damage in its slot's record, whichever of its reads meets it. -/
theorem gainShot_damaged {s : State} {rec : ShotRecord} {k : Nat} (hk : k < 10)
    (hdouble : bitCount 39 (s.word (slotBase rec.slot + k)).changed = 2) (hslot : SoundSlot s rec.slot (List.range k))
    (hcurve : SoundCurve s rec.slot) : gainShot rec s = damageSlot rec.slot (s.count addStoreUncorrectable) := by
  have hten : readSlot rec.slot (List.range 10) s = (damageSlot rec.slot (s.count addStoreUncorrectable), none) := by
    obtain ⟨after, hsplit⟩ := range_split hk
    rw [hsplit]
    exact readSlot_damaged (by omega) hslot hdouble
  unfold gainShot
  by_cases hfirst : k < 2
  · have htwo : readSlot rec.slot [0, 1] s = (damageSlot rec.slot (s.count addStoreUncorrectable), none) := by
      obtain ⟨after, hsplit⟩ := range_split hfirst
      rw [show [0, 1] = List.range 2 from rfl, hsplit]
      exact readSlot_damaged (by omega) hslot hdouble
    rw [htwo]
  · have hmem : ∀ j ∈ [0, 1], j ∈ List.range k := by
      intro j hj
      simp only [List.mem_cons, List.not_mem_nil, or_false] at hj
      exact List.mem_range.2 (by omega)
    rw [readSlot_sound (hslot.mono hmem)]
    dsimp only
    rw [slotRead_area (by decide), shotCurve_taken hcurve]
    dsimp only
    unfold gateShot
    rw [hten]

/-- A station word as last written is read without a change, whether or not the access has given the record up (R168). -/
theorem readStationFor_same {on : Bool} {k : Nat} {s : State} (h : Sound s [k]) : ∃ st, readStationFor on [k] s = (s, some st) := by
  cases on with
  | false => exact ⟨stationRead [k] s, by rw [readStationFor, if_neg Bool.false_ne_true, readStation_sound h]⟩
  | true =>
    have hsame : (readStationOn [k] s).1 = s := by
      unfold readStationOn
      simp only [readOn]
      split
      · rfl
      · rw [readWord_sound (h k List.mem_cons_self)]
    exact ⟨(readStationOn [k] s).2, by rw [readStationFor, if_pos rfl, hsame]⟩

/-- Settles O30: the reads up to the damaged word change nothing, and what follows them is left out. -/
theorem slotDamageEndsWork : Obligations.SlotDamageEndsWork := by
  refine ⟨fun s s1 rec k htake hproc hk hdouble hslot hcurve hcalm => ?_, fun s s1 rec htake hproc hmarked hslot hcurve hcalm => ?_,
    fun s cause i e he hstation hconf hdouble => ?_⟩
  · have hexec := exec_shotProcessing htake hproc
    obtain ⟨-, left, -, hs1⟩ := takeShot_spec htake
    have hu : gainShot rec s1 = damageSlot rec.slot (s1.count addStoreUncorrectable) := by
      subst hs1
      exact gainShot_damaged hk hdouble hslot hcurve
    obtain ⟨f, g, r, j, sq, a, wt, hframe, -⟩ := takeNext_frame (s := damageSlot rec.slot (s1.count addStoreUncorrectable))
      (by subst hs1; exact hcalm)
    rw [hu, hframe] at hexec
    refine ⟨_, put s.sched.storeDamaged rec.slot true, hexec, ?_, fun m => ?_, ?_, ?_⟩
    · subst hs1; rfl
    · rw [put_get]
      by_cases hm : m = rec.slot <;> simp [hm]
    · subst hs1; rfl
    · subst hs1
      exact ⟨rfl, rfl, rfl, rfl, rfl, rfl, rfl, rfl, rfl, rfl, rfl, rfl, rfl, rfl, rfl, rfl, rfl⟩
  · have hexec := exec_shotProcessing htake hproc
    obtain ⟨-, left, -, hs1⟩ := takeShot_spec htake
    have hu : gainShot rec s1 = s1 := by
      rw [gainShot_sound (by subst hs1; exact hslot) (by subst hs1; exact hcurve), if_pos (by subst hs1; exact hmarked)]
    obtain ⟨f, g, r, j, sq, a, wt, hframe, -⟩ := takeNext_frame (s := s1) (by subst hs1; exact hcalm)
    rw [hu, hframe] at hexec
    refine ⟨_, hexec, ?_, ?_, ?_⟩
    · subst hs1; rfl
    · subst hs1; rfl
    · subst hs1
      exact ⟨rfl, rfl, rfl, rfl, rfl, rfl, rfl, rfl, rfl, rfl, rfl, rfl, rfl, rfl, rfl, rfl, rfl⟩
  · have hread : readSlot e.slot [10, 11] s = (damageSlot e.slot (s.count addStoreUncorrectable), none) := by
      obtain h10 | ⟨h10, h11⟩ := hdouble
      · exact readSlot_damaged (before := []) (k := 10) (by decide) nofun h10
      · refine readSlot_damaged (before := [10]) (k := 11) (by decide) (fun a ha => ?_) h11
        rw [List.mem_singleton.1 ha]
        exact h10
    obtain ⟨st, hst⟩ := readStationFor_same (on := cause.isSweep) hstation
    have hclose : closeEntry cause i s = freeEntry i (damageSlot e.slot (s.count addStoreUncorrectable)) := by
      unfold closeEntry
      rw [he]
      dsimp only
      rw [hst]
      dsimp only
      rw [show readConf s = s from readItems_sound hconf, hread]
    refine ⟨put s.sched.storeDamaged e.slot true, put s.trk.entries i none, hclose, fun m => ?_, ?_, fun j hj => ?_⟩
    · rw [put_get]
      by_cases hm : m = e.slot <;> simp [hm]
    · rw [put_get, if_pos rfl]
    · rw [put_get, if_neg hj]

end Sys2Proof.Machine

end

section

/-! PROOFS. The tracker on words that stand as last written (07): association, opening, eviction (R110 to R117), and the misses of a
tracked shot (R118, R119). -/

namespace Sys2Proof.Machine

theorem Pristine.steady {s : State} (hs : Pristine s) (hc : Calm s) : Steady s := ⟨hc, fun a _ => hs.2 a⟩

/-! The reads change nothing. -/

theorem readEntries_pristine {s : State} (hs : Pristine s) (is : List (Fin 32)) : readEntries is s = s := by
  unfold readEntries
  induction is with
  | nil => rfl
  | cons i rest ih =>
    rw [List.foldl_cons, readItem_sound fun k _ => hs.2 _]
    split <;> exact ih

theorem readWaiting_pristine {s : State} (hs : Pristine s) : readWaiting s = s := by
  unfold readWaiting
  generalize (waitingRecords s).map (·.place) = l
  induction l with
  | nil => rfl
  | cons p rest ih => rw [List.foldl_cons, readItem_sound fun k _ => hs.2 _, ih]

/-! Association (R110, R111). -/

theorem matchesEntry_iff (st : StationRecord) (h : Hit) (e : Entry) :
    matchesEntry st.window st.depthTol h e = true ↔ hitMatches st h e := by
  have habs : (h.pos - e.last).natAbs ≤ st.window ↔ |h.pos - e.last| ≤ (st.window : Int) := by
    rw [Int.abs_eq_natAbs, Int.ofNat_le]
  unfold matchesEntry hitMatches
  rw [← habs]
  cases hd : h.depth with
  | none => simp [and_assoc]
  | some d =>
    cases he : e.depths with
    | none => simp [and_assoc]
    | some r =>
      obtain ⟨lo, hi⟩ := r
      simp [and_assoc]

theorem nearestEntry_mem {window tol : Nat} {h : Hit} {s : State} {l : List (Fin 32)} {x : Fin 32 × Entry}
    (hx : nearestEntry window tol h s l = some x) :
    x.1 ∈ l ∧ s.trk.entries[x.1] = some x.2 ∧ matchesEntry window tol h x.2 = true := by
  induction l generalizing x with
  | nil => cases hx
  | cons i rest ih =>
    have hlater (hr : nearestEntry window tol h s rest = some x) :
        x.1 ∈ i :: rest ∧ s.trk.entries[x.1] = some x.2 ∧ matchesEntry window tol h x.2 = true := by
      obtain ⟨hmem, hrest⟩ := ih hr
      exact ⟨List.mem_cons_of_mem i hmem, hrest⟩
    unfold nearestEntry at hx
    dsimp only at hx
    split at hx
    · exact hlater hx
    · rename_i e he
      split at hx
      · rename_i hmatch
        split at hx
        · obtain rfl := Option.some.inj hx
          exact ⟨List.mem_cons_self, he, hmatch⟩
        · rename_i y hy
          split at hx
          · exact hlater (hy.trans hx)
          · obtain rfl := Option.some.inj hx
            exact ⟨List.mem_cons_self, he, hmatch⟩
      · exact hlater hx

/-- No open entry matches (R114). -/
theorem nearestEntry_none {window tol : Nat} {h : Hit} {s : State} (l : List (Fin 32))
    (hno : ∀ (j : Fin 32) (e : Entry), s.trk.entries[j] = some e → matchesEntry window tol h e = false) :
    nearestEntry window tol h s l = none := by
  cases hx : nearestEntry window tol h s l with
  | none => rfl
  | some x =>
    obtain ⟨-, he, hmatch⟩ := nearestEntry_mem hx
    exact absurd (hmatch.symm.trans (hno x.1 x.2 he)) (by decide)

/-- The nearest matching entry, the first of the list among equals (R111). -/
theorem nearestEntry_append {window tol : Nat} {h : Hit} {s : State} {before after : List (Fin 32)} {i : Fin 32} {e : Entry}
    (he : s.trk.entries[i] = some e) (hmatch : matchesEntry window tol h e = true)
    (hb : ∀ j ∈ before, ∀ e', s.trk.entries[j] = some e' → matchesEntry window tol h e' = true →
      (h.pos - e.last).natAbs < (h.pos - e'.last).natAbs)
    (ha : ∀ j ∈ after, ∀ e', s.trk.entries[j] = some e' → matchesEntry window tol h e' = true →
      (h.pos - e.last).natAbs ≤ (h.pos - e'.last).natAbs) :
    nearestEntry window tol h s (before ++ i :: after) = some (i, e) := by
  induction before with
  | nil =>
    rw [List.nil_append, nearestEntry, he]
    dsimp only
    rw [if_pos hmatch]
    cases hrest : nearestEntry window tol h s after with
    | none => rfl
    | some y =>
      obtain ⟨hmem, hy, hymatch⟩ := nearestEntry_mem hrest
      exact if_neg (Nat.not_lt.2 (ha y.1 hmem y.2 hy hymatch))
  | cons j rest ih =>
    rw [List.cons_append, nearestEntry, ih fun k hk => hb k (List.mem_cons_of_mem j hk)]
    cases hj : s.trk.entries[j] with
    | none => rfl
    | some e' =>
      dsimp only
      split
      · rename_i hjmatch
        exact if_pos (hb j List.mem_cons_self e' hj hjmatch)
      · rfl

theorem allIndices_sorted : allIndices.Pairwise (· < ·) := by
  unfold allIndices
  exact List.pairwise_lt_finRange 32

/-- The indices before and behind an index. -/
theorem allIndices_split (i : Fin 32) : ∃ before after, allIndices = before ++ i :: after ∧ (∀ j ∈ before, j < i) ∧
    ∀ j ∈ after, i < j := by
  obtain ⟨before, after, hsplit⟩ := List.append_of_mem (mem_allIndices i)
  have hsorted := allIndices_sorted
  rw [hsplit, List.pairwise_append, List.pairwise_cons] at hsorted
  obtain ⟨-, ⟨hafter, -⟩, hbefore⟩ := hsorted
  exact ⟨before, after, hsplit, fun j hj => hbefore j hj i List.mem_cons_self, hafter⟩

/-! Opening (R114, R115). -/

theorem lowestFree_none {s : State} (h : ∀ j : Fin 32, s.trk.entries[j].isSome = true) : lowestFree s = none := by
  unfold lowestFree
  rw [List.find?_eq_none]
  intro j _
  have := h j
  cases hj : s.trk.entries[j] with
  | none => rw [hj] at this; cases this
  | some e => simp

theorem lowestFree_eq {s : State} {i : Fin 32} (hi : s.trk.entries[i] = none)
    (hbelow : ∀ j : Fin 32, j < i → s.trk.entries[j].isSome = true) : lowestFree s = some i := by
  obtain ⟨before, after, hsplit, hbefore, -⟩ := allIndices_split i
  unfold lowestFree
  rw [hsplit, List.find?_append, List.find?_eq_none.2, List.find?_cons_of_pos, Option.none_or]
  · rw [hi]
    rfl
  · intro j hj
    have := hbelow j (hbefore j hj)
    cases he : s.trk.entries[j] with
    | none => rw [he] at this; cases this
    | some e => simp

theorem lowestFree_spec {s : State} {i : Fin 32} (h : lowestFree s = some i) :
    s.trk.entries[i] = none ∧ ∀ j : Fin 32, j < i → s.trk.entries[j].isSome = true := by
  unfold lowestFree at h
  rw [List.find?_eq_some_iff_append] at h
  obtain ⟨hnone, before, after, hsplit, hbefore⟩ := h
  refine ⟨by simpa using hnone, fun j hj => ?_⟩
  have hmem := mem_allIndices j
  have hsorted := allIndices_sorted
  rw [hsplit] at hmem hsorted
  rw [List.pairwise_append, List.pairwise_cons] at hsorted
  obtain ⟨-, ⟨hafter, -⟩, -⟩ := hsorted
  rcases List.mem_append.1 hmem with hb | hc
  · have := hbefore j hb
    cases hj : s.trk.entries[j] with
    | none => rw [hj] at this; simp at this
    | some e => rfl
  · rcases List.mem_cons.1 hc with rfl | ha
    · exact absurd hj (lt_irrefl j)
    · exact absurd (hafter j ha) (not_lt.2 hj.le)

theorem lowestFree_of_free {s : State} {i : Fin 32} (hi : s.trk.entries[i] = none) : ∃ j, lowestFree s = some j := by
  cases h : lowestFree s with
  | some j => exact ⟨j, rfl⟩
  | none =>
    unfold lowestFree at h
    rw [List.find?_eq_none] at h
    exact absurd (h i (mem_allIndices i)) (by simp [hi])

theorem setEntry_leaves (i : Fin 32) (x : Option Entry) (s : State) :
    Leaves [i] s { s with trk := { s.trk with entries := put s.trk.entries i x } } := by
  refine { Leaves.refl [i] s with others := fun j hj => ?_, table := nofun }
  exact (put_get s.trk.entries i j x).trans (if_neg fun h => hj (by simp [h]))

theorem writeEntry_leaves (i : Fin 32) (e : Entry) (s : State) : Leaves [i] s (writeEntry i e s) := by
  have hbase : 16 ≤ entryBase i := by
    unfold entryBase
    omega
  exact (setEntry_leaves i (some e) s).trans (writeItem_leaves [i] _ hbase 8)

/-- The write of an entry: the table's index, and words of the store. -/
theorem writeEntry_frame (i : Fin 32) (e : Entry) (s : State) : ∃ cells, writeEntry i e s = { s with
    trk := { s.trk with entries := put s.trk.entries i (some e) }, store := { s.store with cells := cells } } := by
  exact ⟨_, writeItem_frame (entryBase i) 8 { s with trk := { s.trk with entries := put s.trk.entries i (some e) } }⟩

/-- The numbers in use are 48 at most (R115). -/
theorem usedNumbers_length {s : State} (h : s.rep.records.length ≤ 16) : (usedNumbers s).length ≤ 48 := by
  have hopen : (allIndices.filterMap fun i => s.trk.entries[i].map (·.number)).length ≤ 32 :=
    (List.length_filterMap_le _ _).trans (by unfold allIndices; rw [List.length_finRange])
  have hqueue : (waitingRecords s).length + s.rep.locked.toList.length ≤ 16 := by
    unfold waitingRecords
    cases s.rep.locked with
    | none => simpa using h
    | some n =>
      simp only [Option.isSome_some, if_true, List.length_tail, Option.toList_some, List.length_singleton]
      omega
  unfold usedNumbers
  simp only [List.length_append, List.length_map]
  omega

/-- An opening: the table by R114 and R115, and nothing else but words of the store. -/
theorem openAt_opens {s : State} (hs : Pristine s) (hlen : s.rep.records.length ≤ 16) (hnext : 1 ≤ s.trk.next)
    (hnext' : s.trk.next ≤ 65535) (i : Fin 32) (h : Hit) :
    opensAt i h s (openAt i h s) ∧ ∃ trk cells, openAt i h s = { s with trk := trk, store := { s.store with cells := cells } } := by
  obtain ⟨hfree, hlow, hhigh⟩ := freeNumber_free (usedNumbers_length hlen) hnext hnext'
  generalize hn : freeNumber (usedNumbers s) 49 s.trk.next = n at hfree hlow hhigh
  obtain ⟨cells, heq⟩ := writeEntry_frame i (openedBy n h)
    { s with trk := { s.trk with order := s.trk.order ++ [i], next := nextNumber n } }
  have hopen : openAt i h s = writeEntry i (openedBy n h)
      { s with trk := { s.trk with order := s.trk.order ++ [i], next := nextNumber n } } := by
    unfold openAt
    rw [readWaiting_pristine hs]
    dsimp only
    rw [hn]
  rw [heq] at hopen
  simp only [usedNumbers, List.mem_append, List.mem_filterMap, List.mem_map, not_or, not_exists, not_and] at hfree
  obtain ⟨⟨hentries, hwaiting⟩, hlocked⟩ := hfree
  refine ⟨⟨n, ?_, hlow, hhigh, fun j e he hno => ?_, fun x hx => hwaiting x hx, fun hl => ?_, ?_, ?_, fun j hj => ?_⟩, ?_⟩
  · rw [hopen]
    exact (put_get s.trk.entries i i _).trans (if_pos rfl)
  · exact hentries j (mem_allIndices j) (by rw [he, Option.map_some, hno])
  · exact hlocked (by rw [hl]; exact List.mem_singleton_self n)
  · rw [hopen]
    show nextNumber n = _
    unfold nextNumber
    split <;> split <;> omega
  · rw [hopen]
  · rw [hopen]
    exact (put_get s.trk.entries i j _).trans (if_neg hj)
  · exact ⟨_, _, hopen⟩

/-! Eviction (R116, R117). -/

/-- One step of the search for the eviction candidate. -/
def candidateStep (s : State) (best : Option (Fin 32 × Nat)) (i : Fin 32) : Option (Fin 32 × Nat) :=
  match s.trk.entries[i], best with
  | none, _ => best
  | some e, none => some (i, e.peakAmp)
  | some e, some b => if e.peakAmp ≤ b.2 then some (i, e.peakAmp) else best

theorem candidate_eq (s : State) : candidate s = s.trk.order.foldl (candidateStep s) none := rfl

/-- A candidate that no later entry undercuts or equals stays (R116). -/
theorem candidate_stays {s : State} {b : Fin 32 × Nat} (l : List (Fin 32))
    (hl : ∀ j ∈ l, ∀ e, s.trk.entries[j] = some e → b.2 < e.peakAmp) : l.foldl (candidateStep s) (some b) = some b := by
  induction l with
  | nil => rfl
  | cons j rest ih =>
    have hstep : candidateStep s (some b) j = some b := by
      unfold candidateStep
      split
      · rfl
      · rename_i hnone
        cases hnone
      · rename_i e b' he hb
        obtain rfl := Option.some.inj hb
        exact if_neg (Nat.not_le.2 (hl j List.mem_cons_self e he))
    rw [List.foldl_cons, hstep]
    exact ih fun k hk => hl k (List.mem_cons_of_mem j hk)

/-- What the search has found lies no lower than a bound of all entries searched. -/
theorem candidate_bounded {s : State} {a : Nat} (l : List (Fin 32)) (best : Option (Fin 32 × Nat))
    (hbest : ∀ b, best = some b → a ≤ b.2) (hl : ∀ j ∈ l, ∀ e, s.trk.entries[j] = some e → a ≤ e.peakAmp) :
    ∀ b, l.foldl (candidateStep s) best = some b → a ≤ b.2 := by
  induction l generalizing best with
  | nil => exact hbest
  | cons j rest ih =>
    rw [List.foldl_cons]
    refine ih _ (fun b hb => ?_) fun k hk => hl k (List.mem_cons_of_mem j hk)
    have hj := hl j List.mem_cons_self
    unfold candidateStep at hb
    split at hb
    · exact hbest b hb
    · rename_i _ e he
      obtain rfl := Option.some.inj hb
      exact hj e he
    · rename_i e b' he
      split at hb
      · obtain rfl := Option.some.inj hb
        exact hj e he
      · exact hbest b hb

/-- The eviction candidate is the lowest peak, the latest in the opening order among equals (R116). -/
theorem candidate_append {s : State} {before after : List (Fin 32)} {i : Fin 32} {e : Entry} (horder : s.trk.order = before ++ i :: after)
    (he : s.trk.entries[i] = some e) (hb : ∀ j ∈ before, ∀ e', s.trk.entries[j] = some e' → e.peakAmp ≤ e'.peakAmp)
    (ha : ∀ j ∈ after, ∀ e', s.trk.entries[j] = some e' → e.peakAmp < e'.peakAmp) :
    candidate s = some (i, e.peakAmp) := by
  have hfound := candidate_bounded (s := s) (a := e.peakAmp) before none nofun hb
  rw [candidate_eq, horder, List.foldl_append, List.foldl_cons]
  have hstep : candidateStep s (before.foldl (candidateStep s) none) i = some (i, e.peakAmp) := by
    generalize before.foldl (candidateStep s) none = best at hfound ⊢
    unfold candidateStep
    rw [he]
    cases best with
    | none => rfl
    | some b => exact if_pos (hfound b rfl)
  rw [hstep]
  exact candidate_stays after ha

/-! What every offer leaves. -/

/-- What the tracker's work on sound words leaves: the access in progress, the odometry, coupling, run state and the words' soundness. -/
structure Tracked (s t : State) : Prop where
  calm : t.store.clearAtRelease = s.store.clearAtRelease
  odo : t.odo = s.odo
  coup : t.coup = s.coup
  gain : t.gain = s.gain
  run : t.link.run = s.link.run
  pristine : Pristine s → Pristine t

theorem Tracked.refl (s : State) : Tracked s s := ⟨rfl, rfl, rfl, rfl, rfl, id⟩

theorem Tracked.trans {s t u : State} (h : Tracked s t) (k : Tracked t u) : Tracked s u :=
  ⟨k.calm.trans h.calm, k.odo.trans h.odo, k.coup.trans h.coup, k.gain.trans h.gain, k.run.trans h.run, k.pristine ∘ h.pristine⟩

theorem Leaves.tracked {is : List (Fin 32)} {s t : State} (h : Leaves is s t) : Tracked s t :=
  ⟨h.calm, h.odo, h.coup, h.gain, h.run, h.pristine⟩

theorem openAt_tracked {s : State} (hs : Pristine s) (i : Fin 32) (h : Hit) : Tracked s (openAt i h s) := by
  have htrk (trk : TrackerUnit) : Tracked s { s with trk := trk } := ⟨rfl, rfl, rfl, rfl, rfl, id⟩
  unfold openAt
  rw [readWaiting_pristine hs]
  exact (htrk _).trans (writeEntry_leaves i _ _).tracked

theorem closeEntry_calm {s : State} (hs : Pristine s) (hc : Calm s) (cause : ClosureCause) (i : Fin 32) :
    (closeEntry cause i s).stopped = false ∧ Pristine (closeEntry cause i s) := by
  obtain ⟨hleaves, -⟩ := closeEntry_frees cause i (hs.steady hc)
  exact ⟨hleaves.calm.trans hc, hleaves.pristine hs⟩

theorem openHit_tracked {s : State} (hs : Pristine s) (hc : Calm s) (h : Hit) : Tracked s (openHit h s).1 := by
  unfold openHit
  split
  · exact openAt_tracked hs _ h
  · rw [readEntries_pristine hs]
    dsimp only
    split
    · exact openAt_tracked hs _ h
    · unfold evictFor
      split
      · exact .refl s
      · rename_i c hcand
        have hclose := (closeEntry_frees .evicted c.1 (hs.steady hc)).1.tracked
        split
        · dsimp only
          split
          · exact hclose
          · exact hclose.trans (openAt_tracked (hclose.pristine hs) _ h)
        · exact (count_leaves [] _ s).tracked

theorem offerHit_tracked {s : State} (hs : Pristine s) (hc : Calm s) (st : StationRecord) (h : Hit) :
    Tracked s (offerHit st h s).1 := by
  unfold offerHit
  rw [readEntries_pristine hs]
  dsimp only
  split
  · exact openHit_tracked hs hc h
  · rename_i i e hnear
    split
    · have hclose := (closeEntry_frees .span i (hs.steady hc)).1.tracked
      obtain ⟨hstop, hpristine⟩ := closeEntry_calm hs hc .span i
      rw [hstop, if_neg Bool.false_ne_true]
      exact hclose.trans (openHit_tracked hpristine hstop h)
    · exact (writeEntry_leaves i _ s).tracked

/-! The statement. -/

/-- The branches of an offer on sound words (R111, R112). -/
theorem offerHit_none {s : State} (hs : Pristine s) {st : StationRecord} {h : Hit}
    (hnear : nearestEntry st.window st.depthTol h s allIndices = none) : offerHit st h s = openHit h s := by
  unfold offerHit
  rw [readEntries_pristine hs]
  dsimp only
  rw [hnear]

theorem offerHit_some {s : State} (hs : Pristine s) (hc : Calm s) {st : StationRecord} {h : Hit} {i : Fin 32} {e : Entry}
    (hnear : nearestEntry st.window st.depthTol h s allIndices = some (i, e)) :
    offerHit st h s = if (st.maxSpan : Int) < spanWith e h then openHit h (closeEntry .span i s)
      else (writeEntry i (takeInto h e) s, some i) := by
  unfold offerHit
  rw [readEntries_pristine hs]
  dsimp only
  rw [hnear]
  dsimp only
  rw [(closeEntry_calm hs hc .span i).1, if_neg Bool.false_ne_true]

theorem openHit_free {s : State} {h : Hit} {i : Fin 32} (hfree : lowestFree s = some i) : openHit h s = (openAt i h s, some i) := by
  unfold openHit
  rw [hfree]

theorem openHit_full {s : State} (hs : Pristine s) {h : Hit} (hfull : lowestFree s = none) : openHit h s = evictFor h s := by
  unfold openHit
  rw [hfull]
  dsimp only
  rw [readEntries_pristine hs, hfull]

/-- The filter that frees an index takes it out of a list that holds it once. -/
theorem filter_ne_append {before after : List (Fin 32)} {i : Fin 32} (h : (before ++ i :: after).Nodup) :
    (before ++ i :: after).filter (fun j => !(j == i)) = before ++ after := by
  have hkeep {l : List (Fin 32)} (hl : i ∉ l) : l.filter (fun j => !(j == i)) = l :=
    List.filter_eq_self.2 fun j hj => by
      have : j ≠ i := fun heq => hl (heq ▸ hj)
      simp [this]
  rw [List.nodup_append, List.nodup_cons] at h
  obtain ⟨-, ⟨hafter, -⟩, hdisjoint⟩ := h
  rw [List.filter_append, List.filter_cons_of_neg (by simp), hkeep fun hi => hdisjoint i hi i List.mem_cons_self rfl, hkeep hafter]

/-- Settles O34: the nearest match, then the branch of R111 to R117 that its span and the table give. -/
theorem hitIsOffered : Obligations.HitIsOffered := by
  intro st h s hmem hsound hcalm horder hlen hnext hnext' q free nearest unmatched
  have hs : Pristine s := ⟨hmem, hsound⟩
  have htracked := offerHit_tracked hs hcalm st h
  have hnatAbs (a b : Int) : a.natAbs < b.natAbs ↔ |a| < |b| := by
    rw [Int.abs_eq_natAbs, Int.abs_eq_natAbs, Int.ofNat_lt]
  have hnatAbs' (a b : Int) : a.natAbs ≤ b.natAbs ↔ |a| ≤ |b| := by
    rw [Int.abs_eq_natAbs, Int.abs_eq_natAbs, Int.ofNat_le]
  have hfound (i : Fin 32) (e : Entry) (hnear : nearest i e) :
      nearestEntry st.window st.depthTol h s allIndices = some (i, e) := by
    obtain ⟨he, hmatch, hbest⟩ := hnear
    obtain ⟨before, after, hsplit, hbefore, hafter⟩ := allIndices_split i
    rw [hsplit]
    refine nearestEntry_append he ((matchesEntry_iff st h e).2 hmatch) (fun j hj e' he' hm => ?_) fun j hj e' he' hm => ?_
    · rcases hbest j e' he' ((matchesEntry_iff st h e').1 hm) with hlt | ⟨-, hle⟩
      · exact (hnatAbs _ _).2 hlt
      · exact absurd (hbefore j hj) (not_lt.2 hle)
    · rcases hbest j e' he' ((matchesEntry_iff st h e').1 hm) with hlt | ⟨heq, -⟩
      · exact (hnatAbs' _ _).2 hlt.le
      · exact (hnatAbs' _ _).2 heq.le
  have hnone (hun : unmatched) : q = openHit h s := by
    refine offerHit_none hs (nearestEntry_none allIndices fun j e he => ?_)
    rw [Bool.eq_false_iff]
    exact fun hm => hun j e he ((matchesEntry_iff st h e).1 hm)
  refine ⟨htracked.odo, htracked.coup, htracked.run, htracked.calm.trans hcalm, fun i e hnear hspan => ?_,
    fun i e hnear hspan => ?_, fun i hun hfree => ?_, fun before i after e hun hfull hsplit he hb ha => ⟨fun hlt => ?_, fun hle => ?_⟩⟩
  · have hq : q = (writeEntry i (takeInto h e) s, some i) := by
      refine (offerHit_some hs hcalm (hfound i e hnear)).trans (if_neg (not_lt.2 ?_))
      exact hspan
    obtain ⟨cells, hwrite⟩ := writeEntry_frame i (takeInto h e) s
    rw [hwrite] at hq
    rw [hq]
    refine ⟨rfl, rfl, rfl, rfl, rfl, rfl, ?_, fun j hj => (put_get s.trk.entries i j _).trans (if_neg hj)⟩
    refine (put_get s.trk.entries i i _).trans ((if_pos rfl).trans (congrArg some ?_))
    have hamp : (if e.peakAmp < h.amp then h.amp else e.peakAmp) = max e.peakAmp h.amp := by
      split <;> omega
    unfold takeInto
    rw [hamp]
    congr 1
  · obtain ⟨t, ht, hclose⟩ := closeEntry_eq .span (hs.steady hcalm) hnear.1
    obtain ⟨hleaves, hgone⟩ := closeEntry_frees .span i (hs.steady hcalm)
    obtain ⟨j, hj⟩ := lowestFree_of_free hgone
    have hq : q = (openAt j h (closeEntry .span i s), some j) := by
      refine (offerHit_some hs hcalm (hfound i e hnear)).trans ((if_pos ?_).trans (openHit_free hj))
      exact hspan
    refine ⟨closeEntry .span i s, j, rfl, hgone, fun k hk => hleaves.others k (by simpa using hk), lowestFree_spec hj,
      by rw [hq], ?_⟩
    rw [hq]
    exact (openAt_opens (hleaves.pristine hs) (hleaves.records hlen) (hleaves.next ▸ hnext) (hleaves.next ▸ hnext') j h).1
  · have hq : q = (openAt i h s, some i) := (hnone hun).trans (openHit_free (lowestFree_eq hfree.1 hfree.2))
    obtain ⟨hopens, trk, cells, hframe⟩ := openAt_opens hs hlen hnext hnext' i h
    rw [hq]
    refine ⟨rfl, hopens, ?_, ?_, ?_⟩ <;> rw [hframe]
  · have hcand := candidate_append hsplit he hb ha
    obtain ⟨t, ht, hclose⟩ := closeEntry_eq .evicted (hs.steady hcalm) he
    obtain ⟨hleaves, hgone⟩ := closeEntry_frees .evicted i (hs.steady hcalm)
    have hq : q = (openAt i h (closeEntry .evicted i s), some i) := by
      refine (hnone hun).trans ((openHit_full hs (lowestFree_none hfull)).trans ?_)
      unfold evictFor
      rw [hcand]
      dsimp only
      rw [if_pos hlt, hgone]
      rfl
    refine ⟨closeEntry .evicted i s, rfl, hgone, ?_, fun k hk => hleaves.others k (by simpa using hk), by rw [hq], ?_⟩
    · have hnodup := horder.1
      rw [hclose]
      show t.trk.order.filter (fun j => !(j == i)) = before ++ after
      rw [ht.table rfl, hsplit]
      rw [hsplit] at hnodup
      exact filter_ne_append hnodup
    · rw [hq]
      exact (openAt_opens (hleaves.pristine hs) (hleaves.records hlen) (hleaves.next ▸ hnext) (hleaves.next ▸ hnext') i h).1
  · have hcand := candidate_append hsplit he hb ha
    have hq : q = (s.count addTrackerSaturation, none) := by
      refine (hnone hun).trans ((openHit_full hs (lowestFree_none hfull)).trans ?_)
      unfold evictFor
      rw [hcand]
      exact if_neg (Nat.not_lt.2 hle)
    rw [hq]
    exact ⟨rfl, rfl⟩

end Sys2Proof.Machine

end

section

/-! PROOFS. A tracked shot (R90, R108, R109): its hits offered in order, and the misses of its slot's other entries (R118, R119). -/

namespace Sys2Proof.Machine

/-! The misses. -/

theorem missAt_leaves {s : State} (hs : Pristine s) (i : Fin 32) : Leaves [i] s (missAt i s) := by
  unfold missAt
  rw [readEntries_pristine hs]
  dsimp only
  split
  · exact .refl _ s
  · exact writeEntry_leaves i _ s

theorem missAt_get {s : State} (hs : Pristine s) {i : Fin 32} {e : Entry} (he : s.trk.entries[i] = some e) :
    (missAt i s).trk.entries[i] = some { e with missRun := e.missRun + 1 } := by
  obtain ⟨cells, hwrite⟩ := writeEntry_frame i { e with missRun := e.missRun + 1 } s
  have hmiss : missAt i s = writeEntry i { e with missRun := e.missRun + 1 } s := by
    unfold missAt
    rw [readEntries_pristine hs]
    dsimp only
    rw [he]
  rw [hmiss, hwrite]
  exact (put_get s.trk.entries i i _).trans (if_pos rfl)

/-- The closure of an entry whose miss run has reached close gap (R119). -/
def missClose (closeGap : Nat) (s : State) (i : Fin 32) : State :=
  match s.trk.entries[i] with
  | some e => if closeGap ≤ e.missRun ∧ !s.stopped then closeEntry .misses i s else s
  | none => s

theorem missClose_leaves {s : State} (hs : Pristine s) (hc : Calm s) (closeGap : Nat) (i : Fin 32) :
    Leaves [i] s (missClose closeGap s i) := by
  unfold missClose
  split
  · exact .ite (fun _ => (closeEntry_frees .misses i (hs.steady hc)).1) fun _ => .refl _ s
  · exact .refl _ s

theorem missClose_get {s : State} (hs : Pristine s) (hc : Calm s) (closeGap : Nat) {i : Fin 32} {e : Entry}
    (he : s.trk.entries[i] = some e) :
    (missClose closeGap s i).trk.entries[i] = if closeGap ≤ e.missRun then none else some e := by
  have hstop : s.stopped = false := hc
  unfold missClose
  rw [he]
  dsimp only
  rw [hstop]
  by_cases hgap : closeGap ≤ e.missRun
  · rw [if_pos ⟨hgap, rfl⟩, if_pos hgap]
    exact (closeEntry_frees .misses i (hs.steady hc)).2
  · rw [if_neg (fun h => hgap h.1), if_neg hgap]
    exact he

/-- Work on one index after the other: each index is worked on as it stood, and every other one stands. -/
theorem foldl_each {f : State → Fin 32 → State} (hf : ∀ {s : State}, Pristine s → Calm s → ∀ i, Leaves [i] s (f s i))
    {g : Entry → Option Entry}
    (hg : ∀ {s : State}, Pristine s → Calm s → ∀ {i : Fin 32} {e : Entry}, s.trk.entries[i] = some e → (f s i).trk.entries[i] = g e)
    {is : List (Fin 32)} (hnodup : is.Nodup) {s : State} (hs : Pristine s) (hc : Calm s) :
    Leaves is s (is.foldl f s) ∧ ∀ i ∈ is, ∀ e, s.trk.entries[i] = some e → (is.foldl f s).trk.entries[i] = g e := by
  induction is generalizing s with
  | nil => exact ⟨.refl [] s, nofun⟩
  | cons i rest ih =>
    rw [List.nodup_cons] at hnodup
    have hfirst := hf hs hc i
    obtain ⟨hrest, hget⟩ := ih hnodup.2 (hfirst.pristine hs) (hfirst.calm.trans hc)
    rw [List.foldl_cons]
    refine ⟨(hfirst.mono ?_).trans (hrest.mono ?_), fun j hj e he => ?_⟩
    · exact fun j hj => List.mem_singleton.1 hj ▸ List.mem_cons_self
    · exact fun j hj => List.mem_cons_of_mem i hj
    · rcases List.mem_cons.1 hj with rfl | hj
      · rw [hrest.others j hnodup.1]
        exact hg hs hc he
      · refine hget j hj e ((hfirst.others j fun hi => hnodup.1 ?_).trans he)
        exact List.mem_singleton.1 hi ▸ hj

/-- The misses of a slot's entries that took no hit (R118, R119). -/
theorem misses_spec {s : State} (hs : Pristine s) (hc : Calm s) (n : Slot) (closeGap : Nat) (fed : List (Fin 32)) :
    Tracked s (misses n closeGap fed s) ∧ (misses n closeGap fed s).trk.next = s.trk.next ∧ ∀ i : Fin 32,
      ((i ∈ fed ∨ ∀ e, s.trk.entries[i] = some e → e.slot ≠ n) → (misses n closeGap fed s).trk.entries[i] = s.trk.entries[i]) ∧
      ∀ e, i ∉ fed → s.trk.entries[i] = some e → e.slot = n → (misses n closeGap fed s).trk.entries[i] =
        if closeGap ≤ e.missRun + 1 then none else some { e with missRun := e.missRun + 1 } := by
  have hmem (i : Fin 32) : i ∈ (openWhere s fun e => e.slot == n).filter (fun i => !fed.contains i) ↔
      (∃ e, s.trk.entries[i] = some e ∧ e.slot = n) ∧ i ∉ fed := by
    rw [List.mem_filter, mem_openWhere]
    simp
  have hnodup : ((openWhere s fun e => e.slot == n).filter fun i => !fed.contains i).Nodup := by
    unfold openWhere allIndices
    exact ((List.nodup_finRange 32).filter _).filter _
  have hfold : misses n closeGap fed s = ((openWhere s fun e => e.slot == n).filter fun i => !fed.contains i).foldl
      (missClose closeGap) (((openWhere s fun e => e.slot == n).filter fun i => !fed.contains i).foldl (fun s i => missAt i s) s) := rfl
  rw [hfold]
  generalize (openWhere s fun e => e.slot == n).filter (fun i => !fed.contains i) = is at hmem hnodup ⊢
  obtain ⟨hmiss, hrun⟩ := foldl_each (f := fun s i => missAt i s) (fun hs _ i => missAt_leaves hs i)
    (g := fun e => some { e with missRun := e.missRun + 1 }) (fun {_} hs _ {_ _} he => missAt_get hs he) hnodup hs hc
  generalize is.foldl (fun s i => missAt i s) s = t at hmiss hrun ⊢
  obtain ⟨hclose, hget⟩ := foldl_each (missClose_leaves · · closeGap) (g := fun e => if closeGap ≤ e.missRun then none else some e)
    (fun {_} hs hc {_ _} he => missClose_get hs hc closeGap he) hnodup (hmiss.pristine hs) (hmiss.calm.trans hc)
  have hboth := hmiss.trans hclose
  refine ⟨hboth.tracked, hboth.next, fun i => ⟨fun hno => hboth.others i fun hi => ?_, fun e hfed he hslot => ?_⟩⟩
  · obtain ⟨⟨e, he, hslot⟩, hfed⟩ := (hmem i).1 hi
    rcases hno with hin | hother
    · exact hfed hin
    · exact hother e he hslot
  · have hi := (hmem i).2 ⟨⟨e, he, hslot⟩, hfed⟩
    exact hget i hi _ (hrun i hi e he)

/-! The offers. -/

/-- An offer takes three fields of the station record. -/
theorem offerHit_congr {st st' : StationRecord} (h1 : st.window = st'.window) (h2 : st.depthTol = st'.depthTol)
    (h3 : st.maxSpan = st'.maxSpan) (h : Hit) (s : State) : offerHit st h s = offerHit st' h s := by
  unfold offerHit
  rw [h1, h2, h3]

/-- The offers of a shot's hits, with the indices that have received one (R109). -/
theorem offerHits_eq {st st' : StationRecord} (h1 : st.window = st'.window) (h2 : st.depthTol = st'.depthTol)
    (h3 : st.maxSpan = st'.maxSpan) (hits : List Hit) (fed : List (Fin 32)) {s : State} (hs : Pristine s) (hc : Calm s) :
    (offerHits st hits fed s).1 = (offeredInOrder st' hits s).1 ∧ Tracked s (offeredInOrder st' hits s).1 ∧
      ∀ i, i ∈ (offerHits st hits fed s).2 ↔ i ∈ (offeredInOrder st' hits s).2 ∨ i ∈ fed := by
  induction hits generalizing fed s with
  | nil => exact ⟨rfl, .refl s, fun i => by simp [offerHits, offeredInOrder]⟩
  | cons h rest ih =>
    have htracked := offerHit_tracked hs hc st' h
    obtain ⟨hstate, hrest, hfed⟩ := ih ((offerHit st' h s).2.toList ++ fed) (htracked.pristine hs) (htracked.calm.trans hc)
    have heq : offerHits st (h :: rest) fed s = offerHits st rest ((offerHit st' h s).2.toList ++ fed) (offerHit st' h s).1 := by
      simp only [offerHits, show s.stopped = false from hc, Bool.false_eq_true, if_false, offerHit_congr h1 h2 h3 h s]
    rw [heq]
    refine ⟨hstate, htracked.trans hrest, fun i => (hfed i).trans ?_⟩
    simp only [offeredInOrder, List.mem_append]
    tauto

/-- The tracker's work for a tracked shot on sound words (R109, R118, R119). -/
theorem track_spec {s : State} (hs : Pristine s) (hc : Calm s) (n : Slot) (closeGap : Nat) (hits : List Hit) :
    let q := offeredInOrder (stationAt s) hits s
    Tracked s (track n closeGap hits s) ∧ (track n closeGap hits s).trk.next = q.1.trk.next ∧ ∀ i : Fin 32,
      ((i ∈ q.2 ∨ ∀ e, q.1.trk.entries[i] = some e → e.slot ≠ n) →
        (track n closeGap hits s).trk.entries[i] = q.1.trk.entries[i]) ∧
      ∀ e, i ∉ q.2 → q.1.trk.entries[i] = some e → e.slot = n → (track n closeGap hits s).trk.entries[i] =
        if closeGap ≤ e.missRun + 1 then none else some { e with missRun := e.missRun + 1 } := by
  intro q
  obtain ⟨hstate, htracked, hfed⟩ := offerHits_eq (st := stationRead [3, 4] s) (st' := stationAt s) (stationRead_window (by decide))
    (stationRead_depthTol (by decide)) (stationRead_maxSpan (by decide) (by decide)) hits [] hs hc
  have heq : track n closeGap hits s = misses n closeGap (offerHits (stationRead [3, 4] s) hits [] s).2 q.1 := by
    have hstop : q.1.stopped = false := htracked.calm.trans hc
    unfold track
    rw [readStation_sound fun a _ => hs.2 a]
    dsimp only
    rw [hstate, hstop, if_neg Bool.false_ne_true]
  obtain ⟨hmisses, hnext, hget⟩ := misses_spec (htracked.pristine hs) (htracked.calm.trans hc) n closeGap
    (offerHits (stationRead [3, 4] s) hits [] s).2
  rw [heq]
  refine ⟨htracked.trans hmisses, hnext, fun i => ⟨fun hno => ?_, fun e hfree he hslot => ?_⟩⟩
  · exact (hget i).1 (hno.imp (fun hin => (hfed i).2 (.inl hin)) id)
  · refine (hget i).2 e (fun hin => ?_) he hslot
    rcases (hfed i).1 hin with hq | hnil
    · exact hfree hq
    · cases hnil

/-! The feed test (R108). -/

/-- The hand-over of an observed shot that is no settle shot: tracked under the feed test's conditions, and else left. -/
theorem feed_spec {h : HandOver} {s : State} (hs : Pristine s) (hsettle : h.record.settle = false) (hobs : h.verdict.observed = true) :
    let tracked := s.link.present = true ∧ s.link.run = .run ∧ (stationAt s).trigger = .position ∧
      (slotAt s h.record.slot).feed = true
    (tracked → feed h s = track h.record.slot (slotAt s h.record.slot).closeGap h.hits s) ∧ (¬tracked → feed h s = s) := by
  intro tracked
  have hfeed : s.link.present = true → feed h s =
      if (feedStation h (stationRead [0] s) s && (slotAt s h.record.slot).feed) = true then
        track h.record.slot (slotAt s h.record.slot).closeGap h.hits s else s := by
    intro hpresent
    unfold feed
    rw [if_pos hpresent, readStation_sound fun a _ => hs.2 a]
    dsimp only
    rw [readSlot_sound fun a _ => hs.2 a]
    dsimp only
    rw [slotRead_feed (by decide), slotRead_closeGap (by decide)]
  have hstation : feedStation h (stationRead [0] s) s = true ↔ s.link.run = .run ∧ (stationAt s).trigger = .position := by
    unfold feedStation
    rw [stationRead_trigger (by decide), hsettle, hobs]
    simp
  constructor
  · rintro ⟨hpresent, hrun, htrigger, hslot⟩
    rw [hfeed hpresent, if_pos]
    rw [hslot, hstation.2 ⟨hrun, htrigger⟩, Bool.and_self]
  · intro hno
    cases hpresent : s.link.present with
    | false =>
      unfold feed
      rw [hpresent, if_neg Bool.false_ne_true]
    | true =>
      rw [hfeed hpresent, if_neg]
      rw [Bool.and_eq_true, hstation]
      rintro ⟨⟨hrun, htrigger⟩, hslot⟩
      exact hno ⟨hpresent, hrun, htrigger, hslot⟩

/-- A passed test in a slot COUPLED or DOUBTFUL leaves it COUPLED, and does nothing beside (R95). -/
theorem couplingNext_pass {c : SlotCoupling} (h : c.state = .coupled ∨ c.state = .doubtful) (lossRun recoveryRun : Nat) (pos : Int) :
    (couplingNext c true lossRun recoveryRun pos).1.state = .coupled ∧ (couplingNext c true lossRun recoveryRun pos).2 = .nothing := by
  rcases h with h | h <;> simp only [couplingNext, h] <;> trivial

/-- Settles O35: the test closes the slot's gaps, the hand-over tracks or not, and the next record is taken. -/
theorem trackedShotUpdatesTable : Obligations.TrackedShotUpdatesTable := by
  intro s s1 shot htake hproc hsettle hmem hsound hcalm hlive n r boost peaks results place c hpass hstate tracked
  have hexec := exec_shotProcessing htake hproc
  obtain ⟨-, left, -, hs1⟩ := takeShot_spec htake
  have hs : Pristine s1 := by subst hs1; exact ⟨hmem, hsound⟩
  have hcalm1 : Calm s1 := by subst hs1; exact hcalm
  have hsame : s1.sched = s.sched ∧ s1.coup = s.coup ∧ s1.trk = s.trk ∧ s1.conf = s.conf ∧ s1.rep = s.rep ∧ s1.mark = s.mark ∧
      s1.odo = s.odo ∧ s1.store.cells = s.store.cells ∧ s1.gain = s.gain ∧ s1.link = s.link := by
    subst hs1
    exact ⟨rfl, rfl, rfl, rfl, rfl, rfl, rfl, rfl, rfl, rfl⟩
  have hwords : slotAt s1 n = r ∧ stationAt s1 = stationAt s ∧ resultsOf s1 shot = results ∧ hitsAt s1 shot = hitsOf place peaks results := by
    subst hs1
    exact ⟨rfl, rfl, rfl, rfl⟩
  clear hs1 htake
  obtain ⟨hsched, hcoup, htrk, hconf, hrep, hmark, hodo, hcells, hgain, hlink⟩ := hsame
  obtain ⟨hr, hstation, hresults, hhits⟩ := hwords
  have hgained := gainShot_sound (s := s1) (rec := shot) (fun a _ => hs.2 a) fun _ a _ b _ => hs.2 b
  obtain ⟨hverdict, hcoupled⟩ := coupleShot_coupled (hs.steady hcalm1) (slotAt s1 n) (resultsOf s1 shot) hsettle
  have hnext := couplingNext_pass (c := c) hstate r.lossRun r.recoveryRun shot.firePos
  rw [hr, hresults, hcoup, hpass] at hverdict hcoupled
  rw [hnext.2] at hcoupled
  have hobserved : (verdictOf true (couplingNext c true r.lossRun r.recoveryRun shot.firePos).1.state).observed = true := by
    rw [hnext.1]
    rfl
  rw [hobserved] at hcoupled
  rw [hsched, hlive, if_neg Bool.false_ne_true, hr, hresults] at hgained
  dsimp only at hgained
  rw [hverdict] at hgained
  generalize (coupleShot shot r results s1).1 = s2 at hcoupled hgained
  obtain ⟨gaps, slots, cnt, gl, un, hs2⟩ := hcoupled.rest nofun
  have hstop : s2.stopped = false := hcoupled.calm.trans hcalm1
  rw [hstop, if_neg Bool.false_ne_true] at hgained
  generalize hv : verdictOf true (couplingNext c true r.lossRun r.recoveryRun shot.firePos).1.state = v at hgained hobserved
  generalize hh : handOverAt s1 shot v = h at hgained
  have hrecord : h.record = shot := by rw [← hh]; rfl
  have hhanded : h.hits = hitsOf place peaks results := by rw [← hh]; exact hhits
  have hobs : h.verdict.observed = true := by rw [← hh]; exact hobserved
  obtain ⟨w, z, hzero, -, -⟩ := autoZero_frame h s2
  obtain ⟨q, b, hanswer, -, -⟩ := answerRequest_frame h (autoZero h s2)
  unfold handShot at hgained
  rw [hzero] at hanswer
  rw [hzero, hanswer] at hgained
  generalize hu : ({ s2 with sched := _, link := _ } : State) = u at hgained
  have hpristine : Pristine u := by
    subst hu hs2
    exact hs
  have hcalmu : Calm u := by
    subst hu hs2
    exact hcalm1
  have hkeep : u.trk = s.trk ∧ u.rep = s.rep ∧ u.conf = s.conf ∧ u.mark = s.mark ∧ u.odo = s.odo ∧
      u.store.cells = s.store.cells ∧ u.link.run = s.link.run ∧ u.gain = s.gain ∧ u.coup = s2.coup ∧
      u.link.present = s.link.present := by
    rw [← htrk, ← hrep, ← hconf, ← hmark, ← hodo, ← hcells, ← hgain, ← hlink]
    subst hu hs2
    exact ⟨rfl, rfl, rfl, rfl, rfl, rfl, rfl, rfl, rfl, rfl⟩
  have hwords : stationAt u = stationAt s ∧ slotAt u n = r := by
    rw [← hstation, ← hr]
    subst hu hs2
    exact ⟨rfl, rfl⟩
  clear hanswer hzero hu hs2
  obtain ⟨hutrk, hurep, huconf, humark, huodo, hucells, hurun, hugain, hucoup, hupresent⟩ := hkeep
  obtain ⟨hustation, huslot⟩ := hwords
  obtain ⟨hyes, hno⟩ := feed_spec hpristine (by rw [hrecord]; exact hsettle) hobs
  rw [hrecord, hustation, huslot, hupresent, hurun] at hyes hno
  obtain ⟨htracked, htnext, htable⟩ := track_spec hpristine hcalmu n r.closeGap (hitsOf place peaks results)
  rw [hustation] at htnext htable
  have hfed (h' : tracked) : feed h u = track n r.closeGap (hitsOf place peaks results) u := by rw [hyes h', hhanded]
  have hwork : Tracked u (feed h u) := by
    by_cases h' : tracked
    · rw [hfed h']
      exact htracked
    · rw [hno h']
      exact .refl u
  have hslots : u.coup.slots[n].state = .coupled ∧ ∀ k, (u.coup.gaps[n]).get k = none := by
    rw [hucoup]
    refine ⟨?_, fun k => ?_⟩
    · rw [hcoupled.slots n, if_pos rfl]
      exact hnext.1
    · rw [hcoupled.gaps_own k, if_pos rfl]
  obtain ⟨f, g, k, j, sq, a, wt, hframe, -⟩ := takeNext_frame (s := feed h u) (hwork.calm.trans hcalmu)
  rw [hgained, hframe] at hexec
  clear hframe hgained
  have hgainT : (feed h u).gain = s.gain := hwork.gain.trans hugain
  refine ⟨_, hexec, ?_, ?_, hwork.odo.trans huodo, hwork.run.trans hurun, ?_, ?_, fun hnot => ?_, fun hyes' => ?_⟩
  · exact congrArg (fun u : GainUnit => u.queue.head?) hgainT
  · exact congrArg (fun u : GainUnit => u.queue.tail) hgainT
  · show ∀ k, ((feed h u).coup.gaps[n]).get k = none
    rw [hwork.coup]
    exact hslots.2
  · show (feed h u).coup.slots[n].state = .coupled
    rw [hwork.coup]
    exact hslots.1
  · show (feed h u).trk = s.trk ∧ (feed h u).rep = s.rep ∧ (feed h u).conf = s.conf ∧ (feed h u).mark = s.mark
    rw [hno hnot]
    exact ⟨hutrk, hurep, huconf, humark⟩
  · refine ⟨u, hutrk, hurep, huconf, humark, huodo, hucells, hurun, ?_⟩
    dsimp only
    rw [hfed hyes']
    exact ⟨htnext, htable⟩

end Sys2Proof.Machine

end

section

/-! PROOFS. The sweep of a table of one entry (R123) and the outputs of its closure (R125 to R132), on words that stand as last
written. -/

namespace Sys2Proof.Machine

/-! One rule per output: what it changes beside words of the store. -/

/-- A report record that finds room (R151). -/
theorem reportJoin_room {s : State} (r : IndicationRecord) (h : s.rep.records.length < 16) : ∃ cells, reportJoin r s = { s with
    rep := { s.rep with records := s.rep.records ++ [⟨freePlace s.rep.records, r⟩] }, store := { s.store with cells := cells } } := by
  unfold reportJoin
  rw [if_pos h]
  unfold appendRecord
  dsimp only
  rw [writeItem_frame]
  exact ⟨_, rfl⟩

theorem readMarks_pristine {s : State} (hs : Pristine s) : readMarks s = s := readMarks_sound fun _ _ a _ => hs.2 a

theorem readConf_pristine {s : State} (hs : Pristine s) : readConf s = s := by
  have h : SoundItems s confBase 4 s.conf.list := fun _ _ a _ => hs.2 a
  exact readItems_sound h

theorem merges_iff (spacing : Nat) (pos : Int) (l : List (Placed Mark)) :
    merges spacing pos l = true ↔ ∃ x ∈ l, |x.item.pos - pos| ≤ (spacing : Int) := by
  have habs (x : Placed Mark) : (x.item.pos - pos).natAbs ≤ spacing ↔ |x.item.pos - pos| ≤ (spacing : Int) := by
    rw [Int.abs_eq_natAbs, Int.ofNat_le]
  simp [merges, habs]

/-- A mark offered (R158, R160): the Marker Unit, the count of missed marks, and words of the store. -/
theorem markOffer_spec {s : State} (hs : Pristine s) (pos : Int) : markOffered pos s (markOffer pos s) ∧
    ∃ m k cells, markOffer pos s = { s with
      mark := m, link := { s.link with counts := { s.link.counts with markerMissed := k } }
      store := { s.store with cells := cells } } := by
  have hgun : gunAt s s.odo.pc = s.odo.pc + s.mark.gunOffset := rfl
  unfold markOffered markOffer
  rw [readMarks_pristine hs, hgun]
  dsimp only
  split
  · rename_i hat
    refine ⟨⟨fun _ => ?_, fun hno => absurd hat hno, fun hno => absurd hat hno, fun hno => absurd hat hno⟩, ?_⟩
    · show fireMark pos s.mark = _
      unfold fireMark
      cases s.mark.mode <;> rfl
    · exact ⟨fireMark pos s.mark, s.link.counts.markerMissed, s.store.cells, rfl⟩
  · rename_i hoff
    split
    · rename_i hnear
      have hnear := (merges_iff _ _ _).1 hnear
      exact ⟨⟨fun hat => absurd hat hoff, fun _ _ => ⟨rfl, rfl⟩, fun _ hno => absurd hnear hno, fun _ hno => absurd hnear hno⟩,
        s.mark, s.link.counts.markerMissed, s.store.cells, rfl⟩
    · rename_i hfar
      have hfar := fun h => hfar ((merges_iff _ _ _).2 h)
      split
      · rename_i hroom
        rw [writeItem_frame]
        refine ⟨⟨fun hat => absurd hat hoff, fun _ hnear => absurd hnear hfar, fun _ _ _ => ⟨freePlace s.mark.marks, rfl⟩,
          fun _ _ hfull => absurd hroom (Nat.not_lt.2 hfull)⟩, ?_⟩
        exact ⟨_, s.link.counts.markerMissed, _, rfl⟩
      · rename_i hfull
        exact ⟨⟨fun hat => absurd hat hoff, fun _ hnear => absurd hnear hfar, fun _ _ hroom => absurd hroom hfull,
          fun _ _ _ => ⟨rfl, rfl⟩⟩, s.mark, _, s.store.cells, rfl⟩

/-- A WATCH queued (R180): the FIFO, the count of dropped WATCHes, and words of the store. -/
theorem fifoJoin_spec (w : WatchOut) (s : State) :
    ∃ l k cells, fifoJoin w s = { s with
      link := { s.link with fifo := l, counts := { s.link.counts with watchesDropped := k } }
      store := { s.store with cells := cells } } ∧
      (s.link.fifo.length < 4 → l = s.link.fifo ++ [⟨freePlace s.link.fifo, w⟩]) ∧
      (4 ≤ s.link.fifo.length → l = s.link.fifo ∧ k = min 255 (s.link.counts.watchesDropped + 1)) := by
  unfold fifoJoin
  split
  · rename_i hroom
    exact ⟨_, s.link.counts.watchesDropped, _, writeItem_frame (fifoBase (freePlace s.link.fifo)) 4
      { s with link := { s.link with fifo := s.link.fifo ++ [⟨freePlace s.link.fifo, w⟩] } }, fun _ => rfl,
      fun hfull => absurd hroom (Nat.not_lt.2 hfull)⟩
  · rename_i hfull
    exact ⟨s.link.fifo, _, s.store.cells, rfl, fun hroom => absurd hroom hfull, fun _ => ⟨rfl, rfl⟩⟩

/-- The placing of a confirmation entry changes the list and words of the store. -/
theorem placeConf_frame (e : ConfEntry) (s : State) :
    ∃ l cells, placeConf e s = { s with conf := { s.conf with list := l }, store := { s.store with cells := cells } } := by
  have hwrite (p : Nat) (l : List (Placed ConfEntry)) : ∃ l' cells, writeItem (confBase p) 4 (setConf l s) =
      { s with conf := { s.conf with list := l' }, store := { s.store with cells := cells } } :=
    ⟨_, _, writeItem_frame (confBase p) 4 (setConf l s)⟩
  unfold placeConf
  split
  · exact hwrite _ _
  · split
    · exact hwrite _ _
    · split
      · exact hwrite _ _
      · exact hwrite _ _

/-- A join to the confirmation list on sound words changes the list and words of the store. -/
theorem confJoin_frame {s : State} (hs : Pristine s) (hc : Calm s) (on : Bool) (e : ConfEntry) :
    ∃ l cells, confJoin on e s = { s with conf := { s.conf with list := l }, store := { s.store with cells := cells } } := by
  unfold confJoin
  rw [readStationFor_sound on hc fun a _ => hs.2 a]
  dsimp only
  unfold expireConf
  rw [readConf_pristine hs]
  split
  · exact ⟨_, s.store.cells, rfl⟩
  · obtain ⟨l, cells, h⟩ := placeConf_frame e (setConf (s.conf.list.filter fun x =>
      !expired (readDir s.odo) (stationRef s s.odo.pc) (stationRead [2] s).span x.item.pos) s)
    exact ⟨l, cells, h⟩

/-! A closure on sound words. -/

/-- The station record is the same where its words are. -/
theorem stationAt_congr {s t : State} (h : ∀ a < 16, t.word a = s.word a) : stationAt t = stationAt s := by
  unfold stationAt
  congr 1
  refine List.map_congr_left fun k hk => ?_
  rw [h k (by have := List.mem_range.1 hk; omega)]

theorem outcomeOf_congr (e : Entry) {r r' : SlotRecord} (confirmed : Bool) (h1 : r.nrep = r'.nrep) (h2 : r.nwatch = r'.nwatch)
    (h3 : r.arep = r'.arep) (h4 : r.awatch = r'.awatch) : outcomeOf e r confirmed = outcomeOf e r' confirmed := by
  unfold outcomeOf
  rw [h1, h2, h3, h4]

/-- The confirming source that a closure finds (R125). -/
def sourceAt (s : State) (e : Entry) : Option (Nat × Nat) :=
  confirmingSource s.strap.val (stationAt s).confirmTol e s.conf.list

/-- The closure of an open entry, its reads made (R125). -/
theorem closeEntry_pristine {s : State} (hs : Pristine s) (hc : Calm s) (cause : ClosureCause) {i : Fin 32} {e : Entry}
    (he : s.trk.entries[i] = some e) :
    closeEntry cause i s = closureOutputs i e (slotRead e.slot [10, 11] s) cause (sourceAt s e) s := by
  unfold closeEntry
  rw [he]
  dsimp only
  rw [readStationFor_sound _ hc fun a _ => hs.2 a]
  dsimp only
  rw [readConf_pristine hs, readSlot_sound fun a _ => hs.2 a]
  dsimp only
  rw [stationRead_confirmTol (by decide)]
  rfl

/-- Closures of indices that are FREE change nothing. -/
theorem closeRead_none (cause : ClosureCause) (is : List (Fin 32)) {s : State} (h : ∀ j ∈ is, s.trk.entries[j] = none) :
    closeRead cause is s = s := by
  unfold closeRead
  induction is with
  | nil => rfl
  | cons j rest ih =>
    have hj := h j List.mem_cons_self
    have hread : readEntries [j] s = s := by
      unfold readEntries
      rw [List.foldl_cons, List.foldl_nil, hj]
      rfl
    rw [List.foldl_cons, hread, closeEntry_of_none cause hj, ite_self]
    exact ih fun k hk => h k (List.mem_cons_of_mem j hk)

theorem closeRead_append (cause : ClosureCause) (is js : List (Fin 32)) (s : State) :
    closeRead cause (is ++ js) s = closeRead cause js (closeRead cause is s) := List.foldl_append

/-- The sweep of a table that holds one entry is that entry's closure. -/
theorem sweep_single {s : State} (hs : Pristine s) (hc : Calm s) (cause : ClosureCause) (i : Fin 32)
    (hothers : ∀ j : Fin 32, j ≠ i → s.trk.entries[j] = none) : sweep cause s = closeEntry cause i s := by
  obtain ⟨before, after, hsplit, hbefore, hafter⟩ := allIndices_split i
  obtain ⟨hleaves, hgone⟩ := closeEntry_frees cause i (hs.steady hc)
  have hfirst : closeRead cause [i] s = closeEntry cause i s := by
    unfold closeRead
    rw [List.foldl_cons, List.foldl_nil, (hs.steady hc).not_ended, if_neg Bool.false_ne_true, readEntries_pristine hs]
  unfold sweep
  rw [hsplit, closeRead_append, closeRead_none cause before fun j hj => hothers j (ne_of_lt (hbefore j hj))]
  have hcons : i :: after = [i] ++ after := rfl
  rw [hcons, closeRead_append, hfirst]
  refine closeRead_none cause after fun j hj => ?_
  have hji : j ≠ i := ne_of_gt (hafter j hj)
  exact (hleaves.others j (by simpa using hji)).trans (hothers j hji)

/-! An END sweep (R123, R129 to R131). -/

/-- What an END sweep leaves. -/
def EndLeaves (s t : State) : Prop :=
  t.mark = s.mark ∧ t.link.fifo = s.link.fifo ∧ t.conf = s.conf ∧ t.rep.locked = s.rep.locked

/-- A report record joined, at a queue with room or at a full one (R151, R152). -/
theorem reportJoin_ends {s : State} (hs : Pristine s) (r : IndicationRecord) : EndLeaves s (reportJoin r s) := by
  have happend (l : List (Placed IndicationRecord)) (t : State) : EndLeaves t (appendRecord r (setRecords l t)) := by
    unfold appendRecord
    dsimp only
    rw [writeItem_frame]
    exact ⟨rfl, rfl, rfl, rfl⟩
  have hcount : EndLeaves s (s.count addReportsLost) := ⟨rfl, rfl, rfl, rfl⟩
  unfold reportJoin
  split
  · exact happend s.rep.records s
  · unfold displaceFor
    rw [readWaiting_pristine hs]
    dsimp only
    split
    · exact happend s.rep.records s
    · split
      · exact hcount
      · split
        · exact happend _ (s.count addReportsLost)
        · exact hcount

theorem closeEntry_ends {s : State} (hs : Pristine s) (hc : Calm s) (i : Fin 32) : EndLeaves s (closeEntry .runEnd i s) := by
  cases he : s.trk.entries[i] with
  | none =>
    rw [closeEntry_of_none _ he]
    exact ⟨rfl, rfl, rfl, rfl⟩
  | some e =>
    have hreport (asev : Nat) (source : Option (Nat × Nat)) : EndLeaves s (reportOutputs e asev .runEnd source s) := by
      unfold reportOutputs
      rw [readStationFor_sound _ hc fun a _ => hs.2 a]
      exact reportJoin_ends hs _
    rw [closeEntry_pristine hs hc _ he]
    unfold closureOutputs
    extract_lets o s1 s2 s3
    have hs1 : EndLeaves s s1 := by
      show EndLeaves s (if o = .reportable then _ else s)
      split
      · exact hreport _ _
      · exact ⟨rfl, rfl, rfl, rfl⟩
    have hs3 : s3 = s1 := rfl
    split
    · rw [hs3]
      exact hs1
    · rw [hs3]
      exact hs1

theorem closeRead_ends {s : State} (hs : Pristine s) (hc : Calm s) (is : List (Fin 32)) : EndLeaves s (closeRead .runEnd is s) := by
  unfold closeRead
  induction is generalizing s with
  | nil => exact ⟨rfl, rfl, rfl, rfl⟩
  | cons i rest ih =>
    obtain ⟨hleaves, -⟩ := closeEntry_frees .runEnd i (hs.steady hc)
    obtain ⟨h1, h2, h3, h4⟩ := closeEntry_ends hs hc i
    obtain ⟨k1, k2, k3, k4⟩ := ih (hleaves.pristine hs) (hleaves.calm.trans hc)
    rw [List.foldl_cons, (hs.steady hc).not_ended, if_neg Bool.false_ne_true, readEntries_pristine hs]
    exact ⟨k1.trans h1, k2.trans h2, k3.trans h3, k4.trans h4⟩

/-! The outputs of a closure with room for its report. -/

/-- The record of a reportable entry, and its mark when its class reaches mark class (R128, R129). -/
theorem reportOutputs_spec {s : State} (hs : Pristine s) (hc : Calm s) (hroom : s.rep.records.length < 16) (e : Entry) (asev : Nat)
    (cause : ClosureCause) (source : Option (Nat × Nat)) :
    let cls := classOf e asev source.isSome
    let marks := joinsOpen cause = true ∧ (stationAt s).markClass ≠ 0 ∧ (stationAt s).markClass ≤ cls
    ∃ m k cells, reportOutputs e asev cause source s = { s with
        rep := { s.rep with records := s.rep.records ++
          [⟨freePlace s.rep.records, indicationOf s.strap.val (stationAt s).railRight e cls cause source⟩] }
        mark := m, link := { s.link with counts := { s.link.counts with markerMissed := k } }
        store := { s.store with cells := cells } } ∧
      (marks → markOffered e.peakPos s (reportOutputs e asev cause source s)) ∧ (¬marks → m = s.mark) := by
  intro cls marks
  obtain ⟨cells, hjoin⟩ := reportJoin_room (indicationOf s.strap.val (stationAt s).railRight e cls cause source) hroom
  have hkept := (reportJoin_leaves [] (indicationOf s.strap.val (stationAt s).railRight e cls cause source) s).pristine hs
  have heq : reportOutputs e asev cause source s =
      if marks then markOffer e.peakPos (reportJoin (indicationOf s.strap.val (stationAt s).railRight e cls cause source) s)
      else reportJoin (indicationOf s.strap.val (stationAt s).railRight e cls cause source) s := by
    unfold reportOutputs
    rw [readStationFor_sound _ hc fun a _ => hs.2 a]
    dsimp only
    rw [stationRead_railRight (by decide), stationRead_markClass (by decide)]
  rw [heq]
  by_cases hmarks : marks
  · rw [if_pos hmarks]
    obtain ⟨hoffer, m, k, cells', hframe⟩ := markOffer_spec hkept e.peakPos
    rw [hjoin] at hoffer hframe ⊢
    exact ⟨m, k, cells', hframe, fun _ => hoffer, fun hno => absurd hmarks hno⟩
  · rw [if_neg hmarks, hjoin]
    exact ⟨s.mark, s.link.counts.markerMissed, cells, rfl, fun hyes => absurd hyes hmarks, fun _ => rfl⟩

/-- The WATCH that a closure queues (R130). -/
def watchOf (s : State) (e : Entry) : WatchOut :=
  { railRight := (stationAt s).railRight, centre := e.peakPos, half := (stationAt s).watchHalf, origin := e.number, slot := e.slot.val }

theorem watchOutput_spec {s : State} (hs : Pristine s) (hc : Calm s) (on : Bool) (e : Entry) :
    watchQueued e s (watchOutput on e s) ∧ ∃ l k cells, watchOutput on e s = { s with
      link := { s.link with fifo := l, counts := { s.link.counts with watchesDropped := k } }
      store := { s.store with cells := cells } } := by
  have heq : watchOutput on e s = fifoJoin (watchOf s e) s := by
    unfold watchOutput
    rw [readStationFor_sound _ hc fun a _ => hs.2 a]
    dsimp only
    rw [stationRead_railRight (by decide), stationRead_watchHalf (by decide) (by decide)]
    rfl
  obtain ⟨l, k, cells, hjoin, hroom, hfull⟩ := fifoJoin_spec (watchOf s e) s
  rw [heq, hjoin]
  exact ⟨⟨fun h => ⟨_, hroom h⟩, hfull⟩, l, k, cells, rfl⟩

/-- The stages of a closure's outputs in a sweep on sound words: the report with its mark, the WATCH, the join, and the index freed. -/
theorem closureOutputs_stages {s : State} (hs : Pristine s) (hc : Calm s) {cause : ClosureCause} (hsweep : cause.isSweep = true)
    (i : Fin 32) (e : Entry) (r : SlotRecord) (source : Option (Nat × Nat)) :
    let o := outcomeOf e r source.isSome
    ∃ s1 s2 s3, closureOutputs i e r cause source s = freeEntry i s3 ∧ Leaves [] s s1 ∧ Leaves [] s s2 ∧
      s1 = (if o = .reportable then reportOutputs e r.asev cause source s else s) ∧
      s2 = (if joinsOpen cause = true ∧ (o = .weak ∨ (o = .reportable ∧ classOf e r.asev source.isSome = 1)) then
        watchOutput true e s1 else s1) ∧
      s3 = (if joinsOpen cause = true ∧ o ≠ .discarded then
        confJoin true (ownConf s.strap.val e (if o = .reportable then .reported else .weak)) s2 else s2) := by
  have hsteady := hs.steady hc
  unfold closureOutputs
  rw [hsweep]
  extract_lets o s1 s2 s3
  have hs1 : Leaves [] s s1 := .ite (fun _ => reportOutputs_leaves [] e r.asev cause source hsteady) fun _ => .refl [] s
  have hs2 : Leaves [] s s2 := .ite (fun _ => hs1.trans (watchOutput_leaves [] _ e (hs1.steady hsteady))) fun _ => hs1
  have hs3 : Leaves [] s s3 := .ite (fun _ => hs2.trans (confJoin_leaves [] _ _ (hs2.steady hsteady))) fun _ => hs2
  refine ⟨s1, s2, s3, ?_, hs1, hs2, rfl, ?_, ?_⟩
  · rw [(hs3.steady hsteady).not_ended, if_neg Bool.false_ne_true]
  · show ite _ _ _ = _
    rw [(hs1.steady hsteady).not_ended]
    simp only [Bool.not_false, and_true]
  · show ite _ _ _ = _
    rw [(hs2.steady hsteady).not_ended, hs2.strap]
    simp only [Bool.not_false, and_true]

/-- What the closure of an entry makes in a sweep with room for its report (R125 to R132). -/
def madeBy (cause : ClosureCause) (i : Fin 32) (e : Entry) (s t : State) : Prop :=
  let r := slotAt s e.slot
  let source := sourceAt s e
  let outcome := outcomeOf e r source.isSome
  let cls := classOf e r.asev source.isSome
  let markClass := (stationAt s).markClass
  let marks := cause ≠ .runEnd ∧ outcome = .reportable ∧ markClass ≠ 0 ∧ markClass ≤ cls
  let watches := cause ≠ .runEnd ∧ (outcome = .weak ∨ (outcome = .reportable ∧ cls = 1))
  t.trk.entries[i] = none ∧ t.rep.locked = s.rep.locked ∧ t.odo = s.odo ∧ t.coup = s.coup ∧
    (outcome ≠ .reportable → t.rep = s.rep) ∧
    (outcome = .reportable → ∃ place, t.rep.records = s.rep.records ++
      [⟨place, indicationOf s.strap.val (stationAt s).railRight e cls cause source⟩]) ∧
    (marks → markOffered e.peakPos s t) ∧ (¬marks → t.mark = s.mark) ∧
    (watches → watchQueued e s t) ∧ (¬watches → t.link.fifo = s.link.fifo) ∧
    ((cause ≠ .runEnd ∧ outcome ≠ .discarded) → ∃ u : State, u.conf = s.conf ∧ u.odo = s.odo ∧ stationAt u = stationAt s ∧
      (∀ a, (u.word a).changed = 0) ∧ Calm u ∧
      t.conf = (confJoin true (ownConf s.strap.val e (if outcome = .reportable then .reported else .weak)) u).conf) ∧
    (¬(cause ≠ .runEnd ∧ outcome ≠ .discarded) → t.conf = s.conf)

theorem closeEntry_makes {s : State} (hs : Pristine s) (hc : Calm s) {cause : ClosureCause} (hsweep : cause.isSweep = true)
    {i : Fin 32} {e : Entry} (he : s.trk.entries[i] = some e) (hroom : s.rep.records.length < 16) :
    madeBy cause i e s (closeEntry cause i s) := by
  unfold madeBy
  intro r source outcome cls markClass marks watches
  have houtcome : outcomeOf e (slotRead e.slot [10, 11] s) source.isSome = outcome :=
    outcomeOf_congr e _ (slotRead_nrep (by decide)) (slotRead_nwatch (by decide)) (slotRead_arep (by decide))
      (slotRead_awatch (by decide))
  have hasev : (slotRead e.slot [10, 11] s).asev = r.asev := slotRead_asev (by decide)
  have hjoins : joinsOpen cause = true ↔ cause ≠ .runEnd := bne_iff_ne
  obtain ⟨s1, s2, s3, hclose, hl1, hl2, hs1, hs2, hs3⟩ := closureOutputs_stages hs hc hsweep i e (slotRead e.slot [10, 11] s) source
  rw [houtcome] at hs1 hs2 hs3
  rw [hasev] at hs1 hs2
  rw [closeEntry_pristine hs hc cause he, show sourceAt s e = source from rfl, hclose]
  have hfirst : ∃ rep m k cells, s1 = { s with
      rep := { s.rep with records := rep }, mark := m
      link := { s.link with counts := { s.link.counts with markerMissed := k } }, store := { s.store with cells := cells } } ∧
      (outcome ≠ .reportable → rep = s.rep.records) ∧
      (outcome = .reportable → ∃ place, rep = s.rep.records ++
        [⟨place, indicationOf s.strap.val (stationAt s).railRight e cls cause source⟩]) ∧
      (marks → markOffered e.peakPos s s1) ∧ (¬marks → m = s.mark) := by
    by_cases hrep : outcome = .reportable
    · rw [if_pos hrep] at hs1
      obtain ⟨m, k, cells, hframe, hmarks, hno⟩ := reportOutputs_spec hs hc hroom e r.asev cause source
      rw [← hs1] at hframe hmarks
      refine ⟨_, m, k, cells, hframe, fun h => absurd hrep h, fun _ => ⟨_, rfl⟩, fun h => hmarks ?_, fun h => hno fun h' => h ?_⟩
      · exact ⟨hjoins.2 h.1, h.2.2⟩
      · exact ⟨hjoins.1 h'.1, hrep, h'.2⟩
    · rw [if_neg hrep] at hs1
      refine ⟨s.rep.records, s.mark, s.link.counts.markerMissed, s.store.cells, hs1, fun _ => rfl, fun h => absurd h hrep,
        fun h => absurd h.2.1 hrep, fun _ => rfl⟩
  have hsecond : ∃ l k cells, s2 = { s1 with
      link := { s1.link with fifo := l, counts := { s1.link.counts with watchesDropped := k } }
      store := { s1.store with cells := cells } } ∧ (watches → watchQueued e s1 s2) ∧ (¬watches → l = s1.link.fifo) := by
    by_cases hw : watches
    · rw [if_pos ⟨hjoins.2 hw.1, hw.2⟩] at hs2
      obtain ⟨hqueued, l, k, cells, hframe⟩ := watchOutput_spec (hl1.pristine hs) (hl1.calm.trans hc) true e
      rw [← hs2] at hqueued hframe
      exact ⟨l, k, cells, hframe, fun _ => hqueued, fun h => absurd hw h⟩
    · rw [if_neg fun h => hw ⟨hjoins.1 h.1, h.2⟩] at hs2
      exact ⟨s1.link.fifo, s1.link.counts.watchesDropped, s1.store.cells, hs2, fun h => absurd h hw, fun _ => rfl⟩
  have hthird : ∃ l cells, s3 = { s2 with conf := { s2.conf with list := l }, store := { s2.store with cells := cells } } ∧
      (¬(cause ≠ .runEnd ∧ outcome ≠ .discarded) → l = s2.conf.list) := by
    by_cases hj : cause ≠ .runEnd ∧ outcome ≠ .discarded
    · rw [if_pos ⟨hjoins.2 hj.1, hj.2⟩] at hs3
      obtain ⟨l, cells, hframe⟩ := confJoin_frame (hl2.pristine hs) (hl2.calm.trans hc) true
        (ownConf s.strap.val e (if outcome = .reportable then .reported else .weak))
      exact ⟨l, cells, hs3.trans hframe, fun h => absurd hj h⟩
    · rw [if_neg fun h => hj ⟨hjoins.1 h.1, h.2⟩] at hs3
      exact ⟨s2.conf.list, s2.store.cells, hs3, fun _ => rfl⟩
  have hstation1 := stationAt_congr hl1.station
  have hstation2 := stationAt_congr hl2.station
  have hpristine2 := hl2.pristine hs
  have hcalm2 : Calm s2 := hl2.calm.trans hc
  obtain ⟨rep, m, k, cells, h1, hrepno, hrepyes, hmarks, hmarkno⟩ := hfirst
  obtain ⟨l, k', cells', h2, hwatch, hwatchno⟩ := hsecond
  obtain ⟨l', cells'', h3, hconfno⟩ := hthird
  refine ⟨?_, ?_, ?_, ?_, fun h => ?_, fun h => ?_, fun h => ?_, fun h => ?_, fun h => ?_, fun h => ?_, fun h => ?_, fun h => ?_⟩
  · rw [freeEntry_get, if_pos rfl]
  · show s3.rep.locked = s.rep.locked
    rw [h3, h2, h1]
  · show s3.odo = s.odo
    rw [h3, h2, h1]
  · show s3.coup = s.coup
    rw [h3, h2, h1]
  · show s3.rep = s.rep
    rw [h3, h2, h1, hrepno h]
  · show ∃ place, s3.rep.records = _
    rw [h3, h2, h1]
    exact hrepyes h
  · have hmarked := hmarks h
    have hmark : (freeEntry i s3).mark = s1.mark := by
      show s3.mark = _
      rw [h3, h2]
    have hcount : (freeEntry i s3).link.counts.markerMissed = s1.link.counts.markerMissed := by
      show s3.link.counts.markerMissed = _
      rw [h3, h2]
    unfold markOffered at hmarked ⊢
    rw [hmark, hcount]
    exact hmarked
  · show s3.mark = s.mark
    rw [h3, h2, h1, hmarkno h]
  · have hqueued := hwatch h
    have hfifo : (freeEntry i s3).link.fifo = s2.link.fifo := by
      show s3.link.fifo = _
      rw [h3]
    have hcount : (freeEntry i s3).link.counts.watchesDropped = s2.link.counts.watchesDropped := by
      show s3.link.counts.watchesDropped = _
      rw [h3]
    have hold : s1.link.fifo = s.link.fifo ∧ s1.link.counts.watchesDropped = s.link.counts.watchesDropped := by
      rw [h1]
      exact ⟨rfl, rfl⟩
    unfold watchQueued at hqueued ⊢
    rw [hstation1, hold.1, hold.2] at hqueued
    rw [hfifo, hcount]
    exact hqueued
  · show s3.link.fifo = s.link.fifo
    rw [h3, h2, hwatchno h, h1]
  · refine ⟨s2, ?_, ?_, hstation2, hpristine2.2, hcalm2, ?_⟩
    · rw [h2, h1]
    · rw [h2, h1]
    · show s3.conf = _
      rw [hs3, if_pos ⟨hjoins.2 h.1, h.2⟩]
  · show s3.conf = s.conf
    rw [h3, hconfno h, h2, h1]

/-- Settles O38: an END sweep entry by entry, and the sweep of one entry as its closure. -/
theorem sweepMakesOutputs : Obligations.SweepMakesOutputs := by
  have taken {s s1 : State} {cause : ClosureCause} (htake : takeShot (asSweep cause) s = some ((), s1)) (hmem : MemoryForm s)
      (hsound : ∀ a, (s.word a).changed = 0) (hcalm : Calm s) : Pristine s1 ∧ Calm s1 ∧ s1.trk = s.trk ∧ s1.rep = s.rep ∧
        s1.odo = s.odo ∧ s1.coup = s.coup ∧ s1.mark = s.mark ∧ s1.link = s.link ∧ s1.conf = s.conf ∧ s1.strap = s.strap ∧
        (∀ n, slotAt s1 n = slotAt s n) ∧ stationAt s1 = stationAt s := by
    obtain ⟨-, left, -, hs1⟩ := takeShot_spec htake
    subst hs1
    exact ⟨⟨hmem, hsound⟩, hcalm, rfl, rfl, rfl, rfl, rfl, rfl, rfl, rfl, fun _ => rfl, rfl⟩
  refine ⟨fun s s1 htake hmem hsound hcalm => ?_, fun s s1 c cause i e hc htake hmem hsound hcalm he hothers hroom => ?_⟩
  · obtain ⟨hs, hcalm1, -, hrep, -, -, hmark, hlink, hconf, -⟩ := taken htake hmem hsound hcalm
    have hexec : exec .endSweep s = .next (release (sweep .runEnd s1)) := by
      have hrun : runSweep .runEnd s = release (sweep .runEnd s1) := by
        unfold runSweep
        rw [htake]
      rw [← hrun]
      rfl
    obtain ⟨h1, h2, h3, h4⟩ := show EndLeaves s1 (sweep .runEnd s1) from closeRead_ends hs hcalm1 allIndices
    obtain ⟨hleaves, -⟩ := sweep_frees .runEnd (hs.steady hcalm1)
    obtain ⟨g, r, k, q, a, w, hrelease⟩ := release_frame (s := sweep .runEnd s1) (hleaves.calm.trans hcalm1)
    rw [hrelease] at hexec
    generalize sweep .runEnd s1 = u at h1 h2 h3 h4 hexec
    rw [hmark] at h1
    rw [hlink] at h2
    rw [hconf] at h3
    rw [hrep] at h4
    exact ⟨_, hexec, h1, h2, h3, h4⟩
  · obtain ⟨hs, hcalm1, htrk, hrep, hodo, hcoup, hmark, hlink, hconf, hstrap, hslot, hstation⟩ := taken htake hmem hsound hcalm
    have hcause : cause.isSweep = true ∧ exec c s = .next (release (sweep cause s1)) := by
      have hrun : runSweep cause s = release (sweep cause s1) := by
        unfold runSweep
        rw [htake]
      rw [← hrun]
      simp only [List.mem_cons, Prod.mk.injEq, List.not_mem_nil, or_false] at hc
      rcases hc with ⟨rfl, rfl⟩ | ⟨rfl, rfl⟩ | ⟨rfl, rfl⟩ <;> exact ⟨rfl, rfl⟩
    obtain ⟨hsweep, hexec⟩ := hcause
    have hmade := closeEntry_makes hs hcalm1 hsweep (i := i) (e := e) (by rw [htrk]; exact he) (by rw [hrep]; exact hroom)
    obtain ⟨hleaves, -⟩ := closeEntry_frees cause i (hs.steady hcalm1)
    rw [sweep_single hs hcalm1 cause i fun j hj => by rw [htrk]; exact hothers j hj] at hexec
    obtain ⟨g, r, k, q, a, w, hrelease⟩ := release_frame (s := closeEntry cause i s1) (hleaves.calm.trans hcalm1)
    rw [hrelease] at hexec
    generalize closeEntry cause i s1 = u at hmade hexec
    unfold madeBy sourceAt markOffered watchQueued at hmade
    rw [hslot, hstation, hrep, hodo, hcoup, hmark, hlink, hconf, hstrap] at hmade
    exact ⟨_, hexec, hmade⟩

end Sys2Proof.Machine

end

section

/-! PROOFS. The confirmation and watch lists (08): expiry, joins and offers, and the join of a peer's frame; the report queue when full
(09). -/

namespace Sys2Proof.Machine

/-! Collections in join order, each place held once. -/

theorem change_split {α : Type} {before after : List (Placed α)} {x : Placed α} (f : α → α)
    (h : ((before ++ x :: after).map (·.place)).Nodup) :
    change (before ++ x :: after) x.place f = before ++ { x with item := f x.item } :: after := by
  rw [List.map_append, List.map_cons, List.nodup_append, List.nodup_cons] at h
  obtain ⟨-, ⟨hafter, -⟩, hbefore⟩ := h
  have hkeep {l : List (Placed α)} (hl : ∀ y ∈ l, y.place ≠ x.place) : change l x.place f = l := by
    exact (List.map_congr_left (g := id) fun y hy => if_neg (hl y hy)).trans (List.map_id l)
  unfold change at hkeep ⊢
  rw [List.map_append, List.map_cons, if_pos rfl, hkeep fun y hy => ?_, hkeep fun y hy heq => hafter (heq ▸ List.mem_map_of_mem hy)]
  exact hbefore y.place (List.mem_map_of_mem hy) x.place List.mem_cons_self

theorem without_split {α : Type} {before after : List (Placed α)} {x : Placed α}
    (h : ((before ++ x :: after).map (·.place)).Nodup) : without (before ++ x :: after) x.place = before ++ after := by
  rw [List.map_append, List.map_cons, List.nodup_append, List.nodup_cons] at h
  obtain ⟨-, ⟨hafter, -⟩, hbefore⟩ := h
  have hkeep {l : List (Placed α)} (hl : ∀ y ∈ l, y.place ≠ x.place) : without l x.place = l :=
    List.filter_eq_self.2 fun y hy => by simp [hl y hy]
  unfold without at hkeep ⊢
  rw [List.filter_append, List.filter_cons_of_neg (by simp), hkeep fun y hy => ?_,
    hkeep fun y hy heq => hafter (heq ▸ List.mem_map_of_mem hy)]
  exact hbefore y.place (List.mem_map_of_mem hy) x.place List.mem_cons_self

theorem places_filter {α : Type} {l : List (Placed α)} (p : Placed α → Bool) (h : (l.map (·.place)).Nodup) :
    ((l.filter p).map (·.place)).Nodup := h.sublist (List.filter_sublist.map _)

/-! Expiry (R143). -/

theorem expired_eq (dir : Dir) (pr : Int) (sp : Nat) (p : Int) : expired dir pr sp p = !stays dir pr sp p := by
  unfold expired stays
  rw [← decide_not, decide_eq_decide]
  cases dir <;> simp only [Dir.sign] <;> omega

theorem not_expired (dir : Dir) (pr : Int) (sp : Nat) (p : Int) : (!expired dir pr sp p) = stays dir pr sp p := by
  rw [expired_eq, Bool.not_not]

theorem expireConf_sound {s : State} (h : SoundItems s confBase 4 s.conf.list) (dir : Dir) (pr : Int) (sp : Nat) :
    expireConf dir pr sp s = setConf (s.conf.list.filter fun x => stays dir pr sp x.item.pos) s := by
  unfold expireConf
  rw [show readConf s = s from readItems_sound h]
  simp only [not_expired]

theorem expireZones_sound {s : State} (h : SoundItems s zoneBase 4 s.conf.zones) (dir : Dir) (pr : Int) (sp : Nat) :
    expireZones dir pr sp s = setZones (s.conf.zones.filter fun x => stays dir pr sp x.item.centre) s := by
  unfold expireZones
  rw [readZones_sound h]
  simp only [not_expired]

/-! The confirmation list (R137, R138). -/

/-- A join on sound words: the expiry test, then the placing of an entry that is not itself expired (R137). -/
theorem confJoin_sound {s : State} (on : Bool) (e : ConfEntry) (hstation : Sound s [2]) (hitems : SoundItems s confBase 4 s.conf.list)
    (hc : Calm s) :
    let left := stays (readDir s.odo) (s.odo.pc + s.odo.ps) (stationAt s).span
    let s2 := setConf (s.conf.list.filter fun x => left x.item.pos) s
    confJoin on e s = if left e.pos = true then placeConf e s2 else s2 := by
  intro left s2
  unfold confJoin
  rw [readStationFor_sound on hc hstation]
  dsimp only
  rw [expireConf_sound hitems, stationRead_span (by decide), expired_eq]
  show (if (!left e.pos) = true then s2 else placeConf e s2) = _
  cases left e.pos <;> rfl

theorem sameSource_iff (x e : ConfEntry) : sameSource x e = true ↔ x.station = e.station ∧ x.number = e.number := by
  simp [sameSource]

theorem find_first {α : Type} {p : α → Bool} {before after : List α} {x : α} (hx : p x = true) (hb : ∀ y ∈ before, p y = false) :
    (before ++ x :: after).find? p = some x := by
  rw [List.find?_append, List.find?_eq_none.2 fun y hy => by rw [hb y hy]; exact Bool.false_ne_true, Option.none_or,
    List.find?_cons_of_pos hx]

theorem appendConf_list (e : ConfEntry) (l : List (Placed ConfEntry)) (s : State) :
    ∃ place, (appendConf e (setConf l s)).conf.list = l ++ [⟨place, e⟩] := by
  unfold appendConf
  dsimp only
  rw [writeItem_frame]
  exact ⟨_, rfl⟩

/-- The branches of the joining step, by what the list holds (R137, R138). -/
theorem placeConf_repeat {e : ConfEntry} {s : State} {before after : List (Placed ConfEntry)} {x : Placed ConfEntry}
    (hnodup : ((before ++ x :: after).map (·.place)).Nodup) (hx : sameSource x.item e = true)
    (hb : ∀ y ∈ before, sameSource y.item e = false) :
    (placeConf e (setConf (before ++ x :: after) s)).conf.list = before ++ { x with item := refresh x.item e } :: after := by
  have hfind : (setConf (before ++ x :: after) s).conf.list.find? (fun x => sameSource x.item e) = some x := find_first hx hb
  unfold placeConf
  rw [hfind]
  dsimp only
  rw [writeItem_frame]
  exact change_split (fun o => refresh o e) hnodup

theorem placeConf_room {e : ConfEntry} {s : State} {l : List (Placed ConfEntry)} (hno : ∀ y ∈ l, sameSource y.item e = false)
    (hroom : l.length < 24) : ∃ place, (placeConf e (setConf l s)).conf.list = l ++ [⟨place, e⟩] := by
  have hfind : (setConf l s).conf.list.find? (fun x => sameSource x.item e) = none :=
    List.find?_eq_none.2 fun y hy => by rw [hno y hy]; exact Bool.false_ne_true
  unfold placeConf
  rw [hfind]
  dsimp only
  rw [if_pos (by exact hroom)]
  exact appendConf_list e l s

/-- The entry that leaves a full list: the oldest WEAK one, else the head (R137). -/
theorem evictPlace_split {before after : List (Placed ConfEntry)} {x : Placed ConfEntry}
    (h : (x.item.mark = .weak ∧ ∀ y ∈ before, y.item.mark ≠ .weak) ∨
      (before = [] ∧ ∀ y ∈ before ++ x :: after, y.item.mark ≠ .weak)) : evictPlace (before ++ x :: after) = some x.place := by
  unfold evictPlace
  rcases h with ⟨hweak, hb⟩ | ⟨rfl, hall⟩
  · rw [find_first (by rw [hweak]; rfl) fun y hy => beq_eq_false_iff_ne.2 (hb y hy)]
  · rw [List.find?_eq_none.2 fun y hy => by rw [beq_iff_eq]; exact hall y hy]
    rfl

theorem placeConf_full {e : ConfEntry} {s : State} {before after : List (Placed ConfEntry)} {x : Placed ConfEntry}
    (hnodup : ((before ++ x :: after).map (·.place)).Nodup) (hno : ∀ y ∈ before ++ x :: after, sameSource y.item e = false)
    (hfull : 24 ≤ (before ++ x :: after).length) (hplace : evictPlace (before ++ x :: after) = some x.place) :
    ∃ place, (placeConf e (setConf (before ++ x :: after) s)).conf.list = before ++ after ++ [⟨place, e⟩] := by
  have hfind : (setConf (before ++ x :: after) s).conf.list.find? (fun x => sameSource x.item e) = none :=
    List.find?_eq_none.2 fun y hy => by rw [hno y hy]; exact Bool.false_ne_true
  unfold placeConf
  rw [hfind]
  dsimp only
  rw [if_neg (by exact Nat.not_lt.2 hfull)]
  simp only [setConf_conf]
  rw [hplace]
  dsimp only
  rw [without_split hnodup]
  exact appendConf_list e _ _

/-! The watch list (R140 to R142). -/

theorem farther_iff (centre : Int) (wz : Nat) (x : Placed Zone) :
    ¬wz < (x.item.centre - centre).natAbs ↔ |x.item.centre - centre| ≤ (wz : Int) := by
  rw [Int.abs_eq_natAbs, Int.ofNat_le, Nat.not_lt]

theorem nearestZone_mem {centre : Int} {wz : Nat} {l : List (Placed Zone)} {x : Placed Zone} (h : nearestZone centre wz l = some x) :
    x ∈ l ∧ |x.item.centre - centre| ≤ (wz : Int) := by
  induction l generalizing x with
  | nil => cases h
  | cons y rest ih =>
    have hlater (hr : nearestZone centre wz rest = some x) : x ∈ y :: rest ∧ |x.item.centre - centre| ≤ (wz : Int) :=
      ⟨List.mem_cons_of_mem y (ih hr).1, (ih hr).2⟩
    unfold nearestZone at h
    dsimp only at h
    split at h
    · exact hlater h
    · rename_i hy
      have hy := (farther_iff centre wz y).1 hy
      split at h
      · obtain rfl := Option.some.inj h
        exact ⟨List.mem_cons_self, hy⟩
      · rename_i z hz
        split at h
        · exact hlater (hz.trans h)
        · obtain rfl := Option.some.inj h
          exact ⟨List.mem_cons_self, hy⟩

theorem nearestZone_none {centre : Int} {wz : Nat} {l : List (Placed Zone)} (h : ∀ y ∈ l, ¬|y.item.centre - centre| ≤ (wz : Int)) :
    nearestZone centre wz l = none := by
  cases hx : nearestZone centre wz l with
  | none => rfl
  | some x => exact absurd (nearestZone_mem hx).2 (h x (nearestZone_mem hx).1)

/-- The nearest zone, the one that joined earlier on ties (R141). -/
theorem nearestZone_append {centre : Int} {wz : Nat} {before after : List (Placed Zone)} {x : Placed Zone}
    (hx : |x.item.centre - centre| ≤ (wz : Int))
    (hb : ∀ y ∈ before, |y.item.centre - centre| ≤ (wz : Int) → |x.item.centre - centre| < |y.item.centre - centre|)
    (ha : ∀ y ∈ after, |y.item.centre - centre| ≤ (wz : Int) → |x.item.centre - centre| ≤ |y.item.centre - centre|) :
    nearestZone centre wz (before ++ x :: after) = some x := by
  have hlt (y z : Placed Zone) : (y.item.centre - centre).natAbs < (z.item.centre - centre).natAbs ↔
      |y.item.centre - centre| < |z.item.centre - centre| := by
    rw [Int.abs_eq_natAbs, Int.abs_eq_natAbs, Int.ofNat_lt]
  induction before with
  | nil =>
    rw [List.nil_append, nearestZone, if_neg ((farther_iff centre wz x).2 hx)]
    cases hrest : nearestZone centre wz after with
    | none => rfl
    | some y =>
      obtain ⟨hmem, hy⟩ := nearestZone_mem hrest
      exact if_neg fun h => not_lt.2 (ha y hmem hy) ((hlt y x).1 h)
  | cons y rest ih =>
    rw [List.cons_append, nearestZone, ih fun z hz => hb z (List.mem_cons_of_mem y hz)]
    dsimp only
    split
    · rfl
    · rename_i hy
      exact if_pos ((hlt x y).2 (hb y List.mem_cons_self ((farther_iff centre wz y).1 hy)))

/-- The zone farthest ahead, the one that joined earliest on ties (R142). -/
theorem farthestZone_append {dir : Dir} {pr : Int} {before after : List (Placed Zone)} {x : Placed Zone}
    (hb : ∀ y ∈ before, distanceAhead dir pr y.item < distanceAhead dir pr x.item)
    (ha : ∀ y ∈ after, distanceAhead dir pr y.item ≤ distanceAhead dir pr x.item) :
    farthestZone dir pr (before ++ x :: after) = some x := by
  induction before with
  | nil =>
    rw [List.nil_append, farthestZone]
    cases hrest : farthestZone dir pr after with
    | none => rfl
    | some y => exact if_neg (not_lt.2 (ha y (farthestZone_mem hrest)))
  | cons y rest ih =>
    rw [List.cons_append, farthestZone, ih fun z hz => hb z (List.mem_cons_of_mem y hz)]
    exact if_pos (hb y List.mem_cons_self)

/-- An offer on sound words: the expiry test, then the placing of a zone that is not itself expired (R141; log 36). -/
theorem zoneOffer_sound {s : State} (z : Zone) (hstation : Sound s [2, 4, 5]) (hitems : SoundItems s zoneBase 4 s.conf.zones)
    (hc : Calm s) :
    let left := stays (readDir s.odo) (s.odo.pc + s.odo.ps) (stationAt s).span
    let s2 := setZones (s.conf.zones.filter fun x => left x.item.centre) s
    zoneOffer z s = if left z.centre = true then placeZone (readDir s.odo) (s.odo.pc + s.odo.ps) (stationAt s).watchHalf z s2 else s2 := by
  intro left s2
  unfold zoneOffer
  rw [readStationOn_sound hc hstation]
  dsimp only
  rw [expireZones_sound hitems, stationRead_span (by decide), stationRead_watchHalf (by decide) (by decide), expired_eq]
  show (if (!left z.centre) = true then s2 else placeZone _ _ _ z s2) = _
  cases left z.centre <;> rfl

/-- The placing of a zone changes the list and words of the store. -/
theorem placeZone_frame (dir : Dir) (pr : Int) (wz : Nat) (z : Zone) (s : State) : ∃ l cells, placeZone dir pr wz z s =
    { s with conf := { s.conf with zones := l }, store := { s.store with cells := cells } } := by
  have hwrite (p : Nat) (l : List (Placed Zone)) : ∃ l' cells, writeItem (zoneBase p) 4 (setZones l s) =
      { s with conf := { s.conf with zones := l' }, store := { s.store with cells := cells } } :=
    ⟨_, _, writeItem_frame (zoneBase p) 4 (setZones l s)⟩
  unfold placeZone
  split
  · exact hwrite _ _
  · split
    · exact hwrite _ _
    · split
      · split
        · exact hwrite _ _
        · exact ⟨s.conf.zones, s.store.cells, rfl⟩
      · exact ⟨s.conf.zones, s.store.cells, rfl⟩

theorem appendZone_list (z : Zone) (l : List (Placed Zone)) (s : State) :
    ∃ place, (appendZone z (setZones l s)).conf.zones = l ++ [⟨place, z⟩] := by
  unfold appendZone
  dsimp only
  rw [writeItem_frame]
  exact ⟨_, rfl⟩

section
variable {dir : Dir} {pr : Int} {wz : Nat} {z : Zone} {s : State} {before after : List (Placed Zone)} {x : Placed Zone}

/-- The branches of the joining step, by what the list holds (R141, R142). -/
theorem placeZone_widens (hnodup : ((before ++ x :: after).map (·.place)).Nodup)
    (hnear : nearestZone z.centre wz (before ++ x :: after) = some x) :
    (placeZone dir pr wz z (setZones (before ++ x :: after) s)).conf.zones =
      before ++ { x with item := { x.item with half := max x.item.half z.half } } :: after := by
  unfold placeZone
  simp only [setZones_conf]
  rw [hnear]
  dsimp only
  rw [writeItem_frame]
  exact change_split (fun o => { o with half := max o.half z.half }) hnodup

theorem placeZone_room {l : List (Placed Zone)} (hnear : nearestZone z.centre wz l = none) (hroom : l.length < 8) :
    ∃ place, (placeZone dir pr wz z (setZones l s)).conf.zones = l ++ [⟨place, z⟩] := by
  have hnear' : nearestZone z.centre wz (setZones l s).conf.zones = none := hnear
  unfold placeZone
  rw [hnear']
  dsimp only
  rw [if_pos (by exact hroom)]
  exact appendZone_list z l s

theorem placeZone_full (hnodup : ((before ++ x :: after).map (·.place)).Nodup)
    (hnear : nearestZone z.centre wz (before ++ x :: after) = none) (hfull : 8 ≤ (before ++ x :: after).length)
    (hfar : farthestZone dir pr (before ++ x :: after) = some x) :
    (distanceAhead dir pr z < distanceAhead dir pr x.item →
      ∃ place, (placeZone dir pr wz z (setZones (before ++ x :: after) s)).conf.zones = before ++ after ++ [⟨place, z⟩]) ∧
    (distanceAhead dir pr x.item ≤ distanceAhead dir pr z →
      (placeZone dir pr wz z (setZones (before ++ x :: after) s)).conf.zones = before ++ x :: after) := by
  have hnear' : nearestZone z.centre wz (setZones (before ++ x :: after) s).conf.zones = none := hnear
  have hfar' : farthestZone dir pr (setZones (before ++ x :: after) s).conf.zones = some x := hfar
  have hwithout : without (setZones (before ++ x :: after) s).conf.zones x.place = before ++ after := without_split hnodup
  unfold placeZone
  rw [hnear']
  dsimp only
  rw [if_neg (by exact Nat.not_lt.2 hfull), hfar']
  dsimp only
  rw [hwithout]
  refine ⟨fun hlt => ?_, fun hle => ?_⟩
  · rw [if_pos hlt]
    exact appendZone_list z _ _
  · rw [if_neg (not_lt.2 hle)]
    rfl

end

/-! The statement. -/

theorem readDir_settled {s : State} (h : Settled s) : readDir s.odo = s.odo.dir := by
  unfold readDir
  rw [h.2, if_neg Bool.false_ne_true]

/-- Settles O39: the expiry test first, then the branch of the joining step. -/
theorem listsExpireAndJoin : Obligations.ListsExpireAndJoin := by
  refine ⟨fun s s1 pc dir htake => ?_, fun s on e hstation hitems hsettled hc hnodup => ?_,
    fun s z hstation hitems hsettled hc hnodup => ?_⟩
  · have hexec : exec .expiryTest s = .next (release (testLists pc dir s1)) := by
      have heq : exec .expiryTest s = execExpiryTest s := rfl
      rw [heq]
      unfold execExpiryTest
      rw [htake]
    obtain ⟨-, left, -, hs1⟩ := takeShot_spec htake
    refine ⟨fun habsent => ?_, fun hpresent hstation hconf hzones hc => ?_⟩
    · have hlists : testLists pc dir s1 = s1 := if_neg (by subst hs1; rw [habsent]; exact Bool.false_ne_true)
      rw [hexec, hlists]
    · have hlists : testLists pc dir s1 = { s1 with conf :=
          { list := s.conf.list.filter fun x => stays dir (pc + s.odo.ps) (stationAt s).span x.item.pos
            zones := s.conf.zones.filter fun x => stays dir (pc + s.odo.ps) (stationAt s).span x.item.centre } } := by
        have hpresent1 : s1.link.present = true := by subst hs1; exact hpresent
        have hstation1 : Sound s1 [2] := by subst hs1; exact hstation
        have hconf1 : SoundItems s1 confBase 4 s1.conf.list := by subst hs1; exact hconf
        have hzones1 : SoundItems s1 zoneBase 4 s1.conf.zones := by subst hs1; exact hzones
        have hc1 : Calm s1 := by subst hs1; exact hc
        unfold testLists
        rw [if_pos hpresent1, readStationOn_sound hc1 hstation1]
        dsimp only
        rw [expireConf_sound hconf1, expireZones_sound (by exact hzones1), stationRead_span (by decide)]
        subst hs1
        rfl
      rw [hexec, hlists]
  · intro left kept same t
    have hjoin : t = if left e.pos = true then placeConf e (setConf kept s) else setConf kept s := by
      have h := confJoin_sound on e hstation hitems hc
      rw [readDir_settled hsettled] at h
      exact h
    have hkept : (kept.map (·.place)).Nodup := places_filter _ hnodup
    have hno (h : ∀ y ∈ kept, ¬same y) : ∀ y ∈ kept, sameSource y.item e = false := fun y hy =>
      Bool.eq_false_iff.2 fun hs => h y hy ((sameSource_iff _ _).1 hs)
    have hframe : ∃ l cells, t = { s with conf := { s.conf with list := l }, store := { s.store with cells := cells } } := by
      rw [hjoin]
      split
      · obtain ⟨l, cells, h⟩ := placeConf_frame e (setConf kept s)
        exact ⟨l, cells, h⟩
      · exact ⟨kept, s.store.cells, rfl⟩
    obtain ⟨l, cells, hframe⟩ := hframe
    refine ⟨by rw [hframe], by rw [hframe], by rw [hframe], by rw [hframe], by rw [hframe], by rw [hframe], fun hleft => ?_,
      fun hleft => ?_⟩
    · rw [hjoin, hleft, if_neg Bool.false_ne_true]
      rfl
    · rw [hleft, if_pos rfl] at hjoin
      rw [hjoin]
      refine ⟨fun before x after hsplit hx hb => ?_, fun hn hroom => placeConf_room (hno hn) hroom,
        fun before x after hn hfull hsplit hevict => ?_⟩
      · rw [hsplit] at hkept ⊢
        refine placeConf_repeat hkept ((sameSource_iff _ _).2 hx) fun y hy => Bool.eq_false_iff.2 fun hs => ?_
        exact hb y hy ((sameSource_iff _ _).1 hs)
      · have hn := hno hn
        rw [hsplit] at hkept hn hfull hevict ⊢
        exact placeConf_full hkept hn hfull (evictPlace_split hevict)
  · intro pr left kept far near ahead t
    have hjoin : t = if left z.centre = true then placeZone s.odo.dir pr (stationAt s).watchHalf z (setZones kept s) else
        setZones kept s := by
      have h := zoneOffer_sound z hstation hitems hc
      rw [readDir_settled hsettled] at h
      exact h
    have hkept : (kept.map (·.place)).Nodup := places_filter _ hnodup
    have hahead (y : Zone) : distanceAhead s.odo.dir pr y = ahead y.centre := by
      show s.odo.dir.sign * (y.centre - pr) = (match s.odo.dir with | .plus => y.centre - pr | .minus => pr - y.centre)
      cases s.odo.dir <;> simp only [Dir.sign] <;> omega
    have hframe : ∃ l cells, t = { s with conf := { s.conf with zones := l }, store := { s.store with cells := cells } } := by
      rw [hjoin]
      split
      · obtain ⟨l, cells, h⟩ := placeZone_frame s.odo.dir pr (stationAt s).watchHalf z (setZones kept s)
        exact ⟨l, cells, h⟩
      · exact ⟨kept, s.store.cells, rfl⟩
    obtain ⟨l, cells, hframe⟩ := hframe
    refine ⟨by rw [hframe], by rw [hframe], by rw [hframe], by rw [hframe], by rw [hframe], by rw [hframe], fun hleft => ?_,
      fun hleft => ?_⟩
    · rw [hjoin, hleft, if_neg Bool.false_ne_true]
      rfl
    · rw [hleft, if_pos rfl] at hjoin
      rw [hjoin]
      refine ⟨fun before x after hsplit hx hb ha => ?_, fun hn hroom => placeZone_room (nearestZone_none hn) hroom,
        fun before x after hn hfull hsplit hb ha => ?_⟩
      · rw [hsplit] at hkept ⊢
        exact placeZone_widens hkept (nearestZone_append hx hb ha)
      · rw [hsplit] at hkept hn hfull ⊢
        simp only [← hahead] at hb ha ⊢
        exact placeZone_full hkept (nearestZone_none hn) hfull (farthestZone_append hb ha)

end Sys2Proof.Machine

end

section

/-! PROOFS. The join of a peer's frame (R136, R178), and a full report queue (R152). -/

namespace Sys2Proof.Machine

/-! Writes keep what stands as last written. -/

theorem word_changed_setWord {s : State} (hm : MemoryForm s) (a b : Nat) {w : StoreWord} (hw : w.changed = 0)
    (h : (s.word b).changed = 0) : ((s.setWord a w).word b).changed = 0 := by
  by_cases ha : a < storeSize
  · rw [word_setWord hm ha]
    split
    · exact hw
    · exact h
  · rw [State.setWord, if_neg ha]
    exact h

theorem word_changed_writeWords {b : Nat} (ds : List Word) (a : Nat) {s : State} (hm : MemoryForm s) (h : (s.word b).changed = 0) :
    ((writeWords a ds s).word b).changed = 0 := by
  induction ds generalizing a s with
  | nil => exact h
  | cons d rest ih => exact ih (a + 1) ((Keeps.setWord s a ⟨d, 0⟩).memory hm) (word_changed_setWord hm a b rfl h)

theorem word_changed_placeConf {s : State} (hm : MemoryForm s) (e : ConfEntry) {b : Nat} (h : (s.word b).changed = 0) :
    ((placeConf e s).word b).changed = 0 := by
  have hwrite (p : Nat) (l : List (Placed ConfEntry)) : ((writeItem (confBase p) 4 (setConf l s)).word b).changed = 0 :=
    word_changed_writeWords (s := setConf l s) _ _ hm h
  unfold placeConf
  split
  · exact hwrite _ _
  · split
    · exact hwrite _ _
    · split
      · exact hwrite _ _
      · exact hwrite _ _

/-- A join on sound words: the list and words of the store change, and a word that stood as last written still does. -/
theorem confJoin_keepsSound {s : State} (on : Bool) (e : ConfEntry) (hm : MemoryForm s) (hstation : Sound s [2])
    (hitems : SoundItems s confBase 4 s.conf.list) (hc : Calm s) :
    (∃ l cells, confJoin on e s = { s with conf := { s.conf with list := l }, store := { s.store with cells := cells } }) ∧
      ∀ b, (s.word b).changed = 0 → ((confJoin on e s).word b).changed = 0 := by
  rw [confJoin_sound on e hstation hitems hc]
  split
  · obtain ⟨l, cells, h⟩ := placeConf_frame e (setConf
      (s.conf.list.filter fun x => stays (readDir s.odo) (s.odo.pc + s.odo.ps) (stationAt s).span x.item.pos) s)
    exact ⟨⟨l, cells, h⟩, fun b hb => word_changed_placeConf (s := setConf
      (s.conf.list.filter fun x => stays (readDir s.odo) (s.odo.pc + s.odo.ps) (stationAt s).span x.item.pos) s) hm e hb⟩
  · exact ⟨⟨_, s.store.cells, rfl⟩, fun b hb => hb⟩

/-- An offer on sound words changes the watch list and words of the store. -/
theorem zoneOffer_frame {s : State} (z : Zone) (hstation : Sound s [2, 4, 5]) (hitems : SoundItems s zoneBase 4 s.conf.zones)
    (hc : Calm s) : ∃ l cells, zoneOffer z s = { s with conf := { s.conf with zones := l }, store := { s.store with cells := cells } } := by
  rw [zoneOffer_sound z hstation hitems hc]
  split
  · obtain ⟨l, cells, h⟩ := placeZone_frame (readDir s.odo) (s.odo.pc + s.odo.ps) (stationAt s).watchHalf z (setZones
      (s.conf.zones.filter fun x => stays (readDir s.odo) (s.odo.pc + s.odo.ps) (stationAt s).span x.item.centre) s)
    exact ⟨l, cells, h⟩
  · exact ⟨_, s.store.cells, rfl⟩

/-! The join of a peer's frame. -/

theorem admits_iff (st : StationRecord) (railCode : Nat) (s : State) : admits st railCode s = true ↔
    s.link.present = true ∧ railCode = (if st.railRight then 1 else 0) ∧ (s.link.run = .run ∨ s.link.run = .hold) ∧
      st.trigger = .position := by
  have hrail : st.railRight.toNat = if st.railRight then 1 else 0 := by cases st.railRight <;> rfl
  unfold admits
  rw [hrail]
  simp [and_assoc]

theorem admits_congr {st st' : StationRecord} (h1 : st.railRight = st'.railRight) (h2 : st.trigger = st'.trigger) (railCode : Nat)
    (s : State) : admits st railCode s = admits st' railCode s := by
  unfold admits
  rw [h1, h2]

/-- The joins of an admitted frame (R137, R141). -/
def peerJoins (j : PeerJoin) (s : State) : State :=
  match j.zone with
  | some z => zoneOffer z (confJoin true j.entry s)
  | none => confJoin true j.entry s

theorem joinPeer_sound {s : State} (j : PeerJoin) (hstation : Sound s [0]) (hc : Calm s) :
    joinPeer j s = if admits (stationAt s) j.railCode s = true then peerJoins j s else s := by
  have hcongr := admits_congr (st := stationRead [0] s) (st' := stationAt s) (stationRead_railRight (by decide))
    (stationRead_trigger (by decide)) j.railCode s
  unfold joinPeer
  rw [readStationOn_sound hc hstation]
  dsimp only
  rw [hcongr]
  by_cases hpresent : s.link.present = true
  · rw [if_pos hpresent]
    rfl
  · rw [if_neg hpresent, if_neg fun h => hpresent ((admits_iff _ _ _).1 h).1]

theorem peerJoins_frame {s : State} (j : PeerJoin) (hm : MemoryForm s) (hstation : Sound s [2, 4, 5])
    (hconf : SoundItems s confBase 4 s.conf.list) (hzones : SoundItems s zoneBase 4 s.conf.zones) (hc : Calm s) :
    ∃ l z cells, peerJoins j s = { s with conf := { list := l, zones := z }, store := { s.store with cells := cells } } := by
  obtain ⟨⟨l, cells, hjoin⟩, hkeep⟩ := confJoin_keepsSound true j.entry hm (hstation.mono (by decide)) hconf hc
  unfold peerJoins
  cases j.zone with
  | none => exact ⟨l, s.conf.zones, cells, hjoin⟩
  | some z =>
    dsimp only
    obtain ⟨zs, cells', hoffer⟩ := zoneOffer_frame (s := confJoin true j.entry s) z (fun a ha => hkeep a (hstation a ha))
      (fun x hx a ha => hkeep a (hzones x (by rw [hjoin] at hx; exact hx) a ha)) (by rw [hjoin]; exact hc)
    rw [hoffer, hjoin]
    exact ⟨l, zs, cells', rfl⟩

/-- Settles O40: the frame is admitted or not, and its joins change the lists alone. -/
theorem peerFrameIsJoined : Obligations.PeerFrameIsJoined := by
  intro s s1 j htake hm hstation hconf hzones hc admitted
  have hexec : exec .peerFrameJoin s = .next (release (joinPeer j s1)) := by
    have heq : exec .peerFrameJoin s = execPeerFrameJoin s := rfl
    rw [heq]
    unfold execPeerFrameJoin
    rw [htake]
  obtain ⟨-, r, rest, -, -, hs1⟩ := takeRx_spec htake
  have hsame : MemoryForm s1 ∧ Sound s1 [0, 2, 4, 5] ∧ SoundItems s1 confBase 4 s1.conf.list ∧
      SoundItems s1 zoneBase 4 s1.conf.zones ∧ Calm s1 := by
    subst hs1
    exact ⟨hm, hstation, hconf, hzones, hc⟩
  obtain ⟨hm1, hstation1, hconf1, hzones1, hc1⟩ := hsame
  have hadmits : admits (stationAt s1) j.railCode s1 = true ↔ admitted := by
    subst hs1
    exact admits_iff _ _ _
  rw [joinPeer_sound j (hstation1.mono (by decide)) hc1] at hexec
  refine ⟨fun hyes => ?_, fun hno => ?_⟩
  · rw [if_pos (hadmits.2 hyes)] at hexec
    obtain ⟨l, z, cells, hjoins⟩ := peerJoins_frame j hm1 (hstation1.mono (by decide)) hconf1 hzones1 hc1
    obtain ⟨g, rr, k, q, a, w, hrelease⟩ := release_frame (s := peerJoins j s1) (by rw [hjoins]; exact hc1)
    rw [hrelease] at hexec
    have hkeep : (peerJoins j s1).odo = s.odo ∧ (peerJoins j s1).trk = s.trk ∧ (peerJoins j s1).rep = s.rep ∧
        (peerJoins j s1).mark = s.mark ∧ (peerJoins j s1).sched = s.sched ∧ (peerJoins j s1).link.run = s.link.run := by
      rw [hjoins]
      subst hs1
      exact ⟨rfl, rfl, rfl, rfl, rfl, rfl⟩
    have hgoal : ∃ t : State, exec .peerFrameJoin s = .next t ∧ t.conf = (peerJoins j s1).conf ∧
        t.odo = s.odo ∧ t.trk = s.trk ∧ t.rep = s.rep ∧ t.mark = s.mark ∧ t.sched = s.sched ∧ t.link.run = s.link.run := by
      clear hrelease hjoins
      generalize peerJoins j s1 = u at hexec hkeep ⊢
      exact ⟨_, hexec, rfl, hkeep⟩
    exact hgoal
  · rw [hexec, if_neg fun h => hno (hadmits.1 h)]

/-! A full report queue (R152). -/

theorem ranksBelow_iff (x y : IndicationRecord) :
    ranksBelow x y = true ↔ x.cls < y.cls ∨ (x.cls = y.cls ∧ x.peakAmp < y.peakAmp) := by
  simp [ranksBelow]

theorem lowestRanked_none {l : List (Placed IndicationRecord)} (h : lowestRanked l = none) : l = [] := by
  cases l with
  | nil => rfl
  | cons x rest =>
    unfold lowestRanked at h
    cases hrest : lowestRanked rest with
    | none =>
      rw [hrest] at h
      exact absurd h (Option.some_ne_none _)
    | some y =>
      rw [hrest] at h
      dsimp only at h
      split at h <;> exact absurd h (Option.some_ne_none _)

/-- The lowest-ranked record: none ranks below it, and each that joined later ranks above it. -/
theorem lowestRanked_split {l : List (Placed IndicationRecord)} {y : Placed IndicationRecord} (h : lowestRanked l = some y) :
    ∃ before after, l = before ++ y :: after ∧ (∀ x ∈ l, ranksBelow x.item y.item = false) ∧
      ∀ x ∈ after, ranksBelow y.item x.item = true := by
  induction l generalizing y with
  | nil => cases h
  | cons x rest ih =>
    unfold lowestRanked at h
    cases hrest : lowestRanked rest with
    | none =>
      rw [hrest] at h
      obtain rfl := Option.some.inj h
      have hnil : rest = [] := lowestRanked_none hrest
      subst hnil
      refine ⟨[], [], rfl, fun z hz => ?_, fun z hz => absurd hz List.not_mem_nil⟩
      obtain rfl := List.mem_singleton.1 hz
      rw [Bool.eq_false_iff, Ne, ranksBelow_iff]
      omega
    | some z =>
      rw [hrest] at h
      obtain ⟨before, after, hsplit, hlow, hafter⟩ := ih hrest
      dsimp only at h
      split at h
      · rename_i hbelow
        obtain rfl := Option.some.inj h
        have hall : ∀ w ∈ rest, ranksBelow x.item w.item = true := by
          intro w hw
          have hwz := hlow w hw
          rw [Bool.eq_false_iff, Ne, ranksBelow_iff] at hwz
          rw [ranksBelow_iff] at hbelow ⊢
          omega
        refine ⟨[], rest, rfl, fun w hw => ?_, hall⟩
        rw [Bool.eq_false_iff, Ne, ranksBelow_iff]
        rcases List.mem_cons.1 hw with rfl | hw
        · omega
        · have := (ranksBelow_iff _ _).1 (hall w hw)
          omega
      · rename_i hnot
        obtain rfl := Option.some.inj h
        refine ⟨x :: before, after, by rw [hsplit]; rfl, fun w hw => ?_, hafter⟩
        rcases List.mem_cons.1 hw with rfl | hw
        · exact Bool.eq_false_iff.2 hnot
        · exact hlow w hw

/-- A record arriving at a full queue of sound words. -/
theorem reportJoin_full {s : State} (r : IndicationRecord) (hfull : s.rep.records.length = 16)
    (hitems : SoundItems s reportBase 11 s.rep.records) :
    reportJoin r s = match lowestRanked (waitingRecords s) with
      | none => s.count addReportsLost
      | some y => if ranksBelow y.item r then appendRecord r (setRecords (without s.rep.records y.place) (s.count addReportsLost))
        else s.count addReportsLost := by
  have hwaiting : readWaiting s = s := by
    have hsound : SoundItems s reportBase 11 (waitingRecords s) := fun x hx => hitems x (mem_of_mem_waitingRecords hx)
    exact readItems_sound hsound
  have hnot : ¬s.rep.records.length < 16 := by omega
  unfold reportJoin
  rw [if_neg hnot]
  unfold displaceFor
  rw [hwaiting]
  dsimp only
  rw [if_neg hnot]
  rfl

/-- Settles O41: the lowest-ranked waiting record, and whether it ranks below the one that arrives. -/
theorem fullReportQueueRanks : Obligations.FullReportQueueRanks := by
  intro s r hfull hitems waiting below t
  have hjoin : t = reportJoin r s := rfl
  rw [reportJoin_full r hfull hitems] at hjoin
  have hbelow (x y : IndicationRecord) : ranksBelow x y = true ↔ below x y := ranksBelow_iff x y
  cases hlow : lowestRanked (waitingRecords s) with
  | none =>
    rw [hlow] at hjoin
    have hempty : waiting = [] := lowestRanked_none hlow
    rw [hjoin]
    refine ⟨rfl, rfl, fun _ => rfl, ?_⟩
    rintro ⟨y, hy, -⟩
    rw [hempty] at hy
    cases hy
  | some y =>
    rw [hlow] at hjoin
    dsimp only at hjoin
    obtain ⟨before, after, hsplit, hleast, hafter⟩ := lowestRanked_split hlow
    have hmem : y ∈ waiting := lowestRanked_mem hlow
    by_cases hr : ranksBelow y.item r = true
    · rw [if_pos hr] at hjoin
      unfold appendRecord at hjoin
      dsimp only at hjoin
      rw [writeItem_frame] at hjoin
      rw [hjoin]
      refine ⟨rfl, rfl, fun hno => absurd ((hbelow _ _).1 hr) (hno y hmem), fun _ => ?_⟩
      refine ⟨before, y, after, _, hsplit, (hbelow _ _).1 hr, fun x hx hb => ?_, fun x hx => (hbelow _ _).1 (hafter x hx), rfl⟩
      exact absurd (((hbelow _ _).2 hb).symm.trans (hleast x hx)) (by decide)
    · rw [if_neg hr] at hjoin
      rw [hjoin]
      refine ⟨rfl, rfl, fun _ => rfl, ?_⟩
      rintro ⟨x, hx, hxr⟩
      have hxy := hleast x hx
      rw [Bool.eq_false_iff, Ne, ranksBelow_iff] at hxy
      rw [ranksBelow_iff] at hr
      have hxr : x.item.cls < r.cls ∨ (x.item.cls = r.cls ∧ x.item.peakAmp < r.peakAmp) := hxr
      omega

end Sys2Proof.Machine

end

section

/-! PROOFS. Setup records as words and bytes (R182, R189), and their store accesses (R58, R174, R182). -/

namespace Sys2Proof.Machine

/-! Words written in a row. -/

theorem writeWords_word {s : State} (hm : MemoryForm s) (ds : List Word) (a b : Nat) (ha : a + ds.length ≤ storeSize) :
    (writeWords a ds s).word b = if a ≤ b ∧ b < a + ds.length then ⟨ds.getD (b - a) 0, 0⟩ else s.word b := by
  induction ds generalizing a s with
  | nil =>
    rw [if_neg (by simp only [List.length_nil]; omega)]
    rfl
  | cons d rest ih =>
    rw [List.length_cons] at ha
    show (writeWords (a + 1) rest (s.setWord a ⟨d, 0⟩)).word b = _
    rw [ih ((Keeps.setWord s a ⟨d, 0⟩).memory hm) (a + 1) (by omega), word_setWord hm (by omega), List.length_cons]
    by_cases hab : b = a
    · subst hab
      rw [if_neg (by omega), if_pos rfl, if_pos (by omega), Nat.sub_self]
      rfl
    · rw [if_neg hab]
      by_cases hin : a + 1 ≤ b ∧ b < a + 1 + rest.length
      · rw [if_pos hin, if_pos (by omega)]
        obtain ⟨k, hk⟩ : ∃ k, b - a = k + 1 := ⟨b - a - 1, by omega⟩
        rw [hk, show b - (a + 1) = k by omega]
        rfl
      · rw [if_neg hin, if_neg (by omega)]

theorem map_getD_range {α : Type} (l : List α) (x : α) : (List.range l.length).map (fun k => l.getD k x) = l := by
  refine List.ext_getElem (by simp) fun i h1 h2 => ?_
  simp [h2]

/-- Words written in a row read back. -/
theorem writeWords_read {s : State} (hm : MemoryForm s) (ds rest : List Word) (a : Nat) (ha : a + (ds ++ rest).length ≤ storeSize) :
    (List.range ds.length).map (fun k => ((writeWords a (ds ++ rest) s).word (a + k)).data) = ds := by
  refine Eq.trans (List.map_congr_left fun k hk => ?_) (map_getD_range ds 0)
  have hk := List.mem_range.1 hk
  rw [writeWords_word hm _ _ _ ha, if_pos (by rw [List.length_append]; omega)]
  rw [show a + k - a = k by omega]
  simp only [List.getD_eq_getElem?_getD, List.getElem?_append_left hk]

/-! Bytes and words. -/

theorem bytesOf_append (a b c d : Byte) : bytesOf (a ++ b ++ c ++ d) = [a, b, c, d] := by
  have hhigh {v w : Nat} (x : BitVec v) (y : BitVec w) {k : Nat} (h : w ≤ k) :
      (x ++ y).extractLsb' k 8 = x.extractLsb' (k - w) 8 := BitVec.extractLsb'_append_eq_of_le h
  unfold bytesOf
  have h1 : (a ++ b ++ c ++ d).extractLsb' 24 8 = a := by
    rw [hhigh (a ++ b ++ c) d (by decide), hhigh (a ++ b) c (by decide)]
    exact BitVec.extractLsb'_append_eq_left
  have h2 : (a ++ b ++ c ++ d).extractLsb' 16 8 = b := by
    rw [hhigh (a ++ b ++ c) d (by decide), hhigh (a ++ b) c (by decide)]
    exact BitVec.extractLsb'_append_eq_right
  have h3 : (a ++ b ++ c ++ d).extractLsb' 8 8 = c := by
    rw [hhigh (a ++ b ++ c) d (by decide)]
    exact BitVec.extractLsb'_append_eq_right
  have h4 : (a ++ b ++ c ++ d).extractLsb' 0 8 = d := BitVec.extractLsb'_append_eq_right
  rw [h1, h2, h3, h4]

/-- A word whose last bytes are zero. -/
theorem bytesOf_zeros (a b c : Byte) :
    bytesOf (a ++ (0 : BitVec 24)) = [a, 0, 0, 0] ∧ bytesOf (a ++ b ++ (0 : BitVec 16)) = [a, b, 0, 0] ∧
      bytesOf (a ++ b ++ c ++ (0 : BitVec 8)) = [a, b, c, 0] := by
  refine ⟨?_, ?_, bytesOf_append a b c 0⟩
  · have h := bytesOf_append a 0 0 0
    rwa [BitVec.append_assoc, BitVec.append_assoc] at h
  · have h := bytesOf_append a b 0 0
    rwa [BitVec.append_assoc] at h

/-- The bytes of a payload of whole words read back. -/
theorem bytes_of_wordsOf (p : List Byte) :
    (wordsOf p).flatMap bytesOf = p ++ List.replicate ((4 - p.length % 4) % 4) 0 := by
  induction p using wordsOf.induct with
  | case1 a b c d rest ih =>
    have hmod : (a :: b :: c :: d :: rest).length % 4 = rest.length % 4 := by
      simp only [List.length_cons]
      omega
    rw [wordsOf, List.flatMap_cons, bytesOf_append, ih, hmod]
    rfl
  | case2 => rfl
  | case3 a => rw [wordsOf, List.flatMap_singleton, (bytesOf_zeros a a a).1]; rfl
  | case4 a b => rw [wordsOf, List.flatMap_singleton, (bytesOf_zeros a b b).2.1]; rfl
  | case5 a b c => rw [wordsOf, List.flatMap_singleton, (bytesOf_zeros a b c).2.2]; rfl

theorem byteOf_toNat (n : Nat) : (byteOf n).toNat = n % 256 := BitVec.toNat_ofNat n 8

theorem byteAt_lt (p : List Byte) (i : Nat) : byteAt p i < 256 := (p.getD i 0).isLt

/-! Fields written and read back (R176, R189). -/

theorem byteAt_zero (b : Byte) (p : List Byte) : byteAt (b :: p) 0 = b.toNat := rfl

theorem byteAt_succ (b : Byte) (p : List Byte) (i : Nat) : byteAt (b :: p) (i + 1) = byteAt p i := rfl

theorem byteOf_u16 {n : Nat} (h : n < 65536) : (byteOf (n / 256)).toNat * 256 + (byteOf n).toNat = n := by
  rw [byteOf_toNat, byteOf_toNat]
  omega

theorem signed_unsigned {x : Int} (h1 : -32768 ≤ x) (h2 : x < 32768) : signed 32768 (unsigned 65536 x) = x := by
  unfold signed unsigned
  split <;> omega

theorem clampNat_le {lo hi : Nat} (h : lo ≤ hi) (x : Nat) : clampNat lo hi x ≤ hi :=
  Nat.max_le.2 ⟨h, Nat.min_le_left hi x⟩

/-- A clamped field of one byte reads back. -/
theorem byteOf_clamp {lo hi : Nat} (h : lo ≤ hi) (hb : hi < 256) (x : Nat) :
    (byteOf (clampNat lo hi x)).toNat = clampNat lo hi x := by
  rw [byteOf_toNat]
  exact Nat.mod_eq_of_lt ((clampNat_le h x).trans_lt hb)

/-- A clamped field of two bytes reads back. -/
theorem u16_clamp {lo hi : Nat} (h : lo ≤ hi) (hb : hi < 65536) (x : Nat) :
    (byteOf (clampNat lo hi x / 256)).toNat * 256 + (byteOf (clampNat lo hi x)).toNat = clampNat lo hi x :=
  byteOf_u16 ((clampNat_le h x).trans_lt hb)

theorem unsigned_lt (x : Int) : unsigned 65536 x < 65536 := by
  unfold unsigned
  omega

/-- A clamped signed field of two bytes reads back. -/
theorem s16_clamp {lo hi : Int} (hlo : -32768 ≤ lo) (h : lo ≤ hi) (hhi : hi < 32768) (x : Int) :
    signed 32768 ((byteOf (unsigned 65536 (clampInt lo hi x) / 256)).toNat * 256 +
      (byteOf (unsigned 65536 (clampInt lo hi x))).toNat) = clampInt lo hi x := by
  rw [byteOf_u16 (unsigned_lt _)]
  unfold clampInt
  exact signed_unsigned (by omega) (by omega)

/-- A flag of a byte. -/
theorem bit_of_toNat {n k : Nat} {b : Bool} (h : n / 2 ^ k % 2 = b.toNat) : bit n k = b := by
  have hbits : bits n k 1 = b.toNat := h
  rw [bit, hbits]
  cases b <;> rfl

/-- The first byte of a station record reads back. -/
theorem station_flags (a b c : Bool) {m : Nat} (hm : m < 4) :
    let n := (byteOf (a.toNat + 2 * b.toNat + 4 * c.toNat + 8 * (m % 4))).toNat
    bit n 0 = a ∧ bit n 1 = b ∧ bit n 2 = c ∧ bits n 3 2 = m := by
  have ha := a.toNat_le
  have hb := b.toNat_le
  have hc := c.toNat_le
  rw [byteOf_toNat]
  refine ⟨bit_of_toNat ?_, bit_of_toNat ?_, bit_of_toNat ?_, ?_⟩
  · omega
  · omega
  · omega
  · unfold bits
    omega

theorem ite_trigger (t : Trigger) : (if t == .timer then Trigger.timer else .position) = t := by cases t <;> rfl

theorem ite_marker (m : MarkerMode) : (if m == .level then MarkerMode.level else .pulse) = m := by cases m <;> rfl

/-- A station record in its ranges reads back from its bytes (R182). -/
theorem stationOfBytes_clamp (r : StationRecord) (h : r.markClass < 4) (l : List Byte) :
    stationOfBytes (stationToBytes (stationClamp r) ++ l) = stationClamp r := by
  obtain ⟨h0, h1, h2, h3⟩ := station_flags r.railRight (r.trigger == .timer) (r.markerMode == .level) h
  simp only [stationOfBytes, stationToBytes, stationClamp, u16Bytes, s16Bytes, List.cons_append, List.nil_append, u16At, s16At,
    byteAt_zero, byteAt_succ, h0, h1, h2, h3, ite_trigger, ite_marker, byteOf_clamp, u16_clamp, s16_clamp, Nat.reduceLeDiff,
    Nat.reduceLT, Int.reduceLE, Int.reduceLT, Int.reduceNeg]

theorem slot_flags {x0 x1 x2 x3 x4 x5 x6 x7 : Bool} {n : Nat}
    (hn : n = (byteOf (x0.toNat + 2 * x1.toNat + 4 * x2.toNat + 8 * x3.toNat + 16 * x4.toNat + 32 * x5.toNat + 64 * x6.toNat
      + 128 * x7.toNat)).toNat) :
    bit n 0 = x0 ∧ bit n 1 = x1 ∧ bit n 2 = x2 ∧ bit n 3 = x3 ∧ bit n 4 = x4 ∧ bit n 5 = x5 ∧ bit n 6 = x6 ∧ bit n 7 = x7 := by
  have h0 := x0.toNat_le
  have h1 := x1.toNat_le
  have h2 := x2.toNat_le
  have h3 := x3.toNat_le
  have h4 := x4.toNat_le
  have h5 := x5.toNat_le
  have h6 := x6.toNat_le
  have h7 := x7.toNat_le
  rw [byteOf_toNat] at hn
  refine ⟨bit_of_toNat ?_, bit_of_toNat ?_, bit_of_toNat ?_, bit_of_toNat ?_, bit_of_toNat ?_, bit_of_toNat ?_,
    bit_of_toNat ?_, bit_of_toNat ?_⟩
  all_goals omega

/-- Two fields of a byte read back. -/
theorem byte_pair {x y : Nat} (hx : x < 16) (hy : y < 16) :
    bits (byteOf (x % 16 + 16 * (y % 16))).toNat 0 4 = x ∧ bits (byteOf (x % 16 + 16 * (y % 16))).toNat 4 4 = y := by
  rw [byteOf_toNat]
  unfold bits
  omega

/-- The ports of a slot record read back. -/
theorem ports_read (x y : Port) :
    Fin.ofNat 8 (bits (byteOf (x.val + 8 * y.val)).toNat 0 3) = x ∧
      Fin.ofNat 8 (bits (byteOf (x.val + 8 * y.val)).toNat 3 3) = y := by
  have hx := x.isLt
  have hy := y.isLt
  rw [byteOf_toNat]
  unfold bits
  refine ⟨Fin.ext ?_, Fin.ext ?_⟩ <;> rw [Fin.val_ofNat] <;> omega

/-- The code a slot record is stored with for its curve area (R182; log 34). -/
def areaCode (a : Option Area) : Nat := match a with | some a => a.val | none => 15

theorem areaCode_lt (a : Option Area) : areaCode a < 16 := by
  cases a with
  | none => decide
  | some a => exact a.isLt.trans (by decide)

theorem areaOfCode_code (a : Option Area) : areaOfCode (areaCode a) = a := by
  cases a with
  | none => rfl
  | some a => exact dif_pos a.isLt

/-- The quiet time and the curve area of a slot record read back. -/
theorem quiet_area_read {q c : Nat} (hq : q < 512) (hc : c < 16) :
    let n := q % 512 + 4096 * c
    bits ((byteOf (n / 256)).toNat * 256 + (byteOf n).toNat) 0 9 = q ∧
      bits ((byteOf (n / 256)).toNat * 256 + (byteOf n).toNat) 12 4 = c := by
  intro n
  rw [byteOf_u16 (by omega)]
  unfold bits
  omega

/-- The coupling threshold and the close gap of a slot record read back. -/
theorem threshold_gap_read {x y : Nat} (hx : x < 1024) (hy : y < 64) :
    let n := x % 1024 + 1024 * (y % 64)
    bits ((byteOf (n / 256)).toNat * 256 + (byteOf n).toNat) 0 10 = x ∧
      bits ((byteOf (n / 256)).toNat * 256 + (byteOf n).toNat) 10 6 = y := by
  intro n
  rw [byteOf_u16 (by omega)]
  unfold bits
  omega

theorem GateMode.code_le (m : GateMode) : m.code ≤ 2 := by cases m <;> decide

theorem gateAMode_code {m : GateMode} (h : m ≠ .absence) : gateAMode m.code = m := by
  cases m with
  | first => rfl
  | peak => rfl
  | absence => exact absurd rfl h

theorem gateBMode_code (m : GateMode) : gateBMode m.code = m := by cases m <;> rfl

/-- The gates' byte of a slot record reads back. -/
theorem gates_read (x y z : Bool) (a b : GateMode) :
    let n := (byteOf (x.toNat + 2 * y.toNat + 4 * z.toNat + 8 * a.code + 32 * b.code)).toNat
    bit n 0 = x ∧ bit n 1 = y ∧ bit n 2 = z ∧ bits n 3 2 = a.code ∧ bits n 5 2 = b.code := by
  have hx := x.toNat_le
  have hy := y.toNat_le
  have hz := z.toNat_le
  have ha := a.code_le
  have hb := b.code_le
  rw [byteOf_toNat]
  refine ⟨bit_of_toNat ?_, bit_of_toNat ?_, bit_of_toNat ?_, ?_, ?_⟩
  · omega
  · omega
  · omega
  · unfold bits
    omega
  · unfold bits
    omega

theorem clampNat_lt {lo hi n : Nat} (h : lo ≤ hi) (hn : hi < n) (x : Nat) : clampNat lo hi x < n := (clampNat_le h x).trans_lt hn

theorem ite_look (d : Dir) : (if d == .minus then Dir.minus else .plus) = d := by cases d <;> rfl

/-- A slot record as a frame's bytes can give it. -/
def SlotCodes (r : SlotRecord) : Prop :=
  r.slot < 16 ∧ r.gateI.mode = .first ∧ r.gateA.mode ≠ .absence

theorem slotOfBytes_codes (p : List Byte) : SlotCodes (slotOfBytes p) := by
  refine ⟨Nat.mod_lt _ (by decide), rfl, ?_⟩
  show gateAMode _ ≠ _
  unfold gateAMode
  split <;> decide

/-- A slot record in its ranges reads back from its bytes (R182). -/
theorem slotOfBytes_clamp (r : SlotRecord) (h : SlotCodes r) (l : List Byte) :
    slotOfBytes (slotToBytes (slotClamp r) ++ l) = slotClamp r := by
  obtain ⟨hslot, hfirst, hmode⟩ := h
  obtain ⟨hs, hd⟩ := byte_pair hslot (clampNat_lt (by decide : 1 ≤ 8) (by decide : 8 < 16) r.divisor)
  obtain ⟨f0, f1, f2, f3, f4, f5, f6, f7⟩ := slot_flags (x0 := r.enable) (x1 := r.claimsRail) (x2 := r.autoZero)
    (x3 := r.interfaceSync) (x4 := r.look == .minus) (x5 := r.feed) (x6 := r.watchResponse) (x7 := r.sourceGateB) rfl
  obtain ⟨htx, hrx⟩ := ports_read r.txPort r.rxPort
  obtain ⟨hq, hc⟩ := quiet_area_read (clampNat_lt (by decide : 10 ≤ 400) (by decide : 400 < 512) r.quiet) (areaCode_lt r.area)
  obtain ⟨ht, hg⟩ := threshold_gap_read (clampNat_lt (by decide : 0 ≤ 1000) (by decide : 1000 < 1024) r.couplingThreshold)
    (clampNat_lt (by decide : 1 ≤ 32) (by decide : 32 < 64) r.closeGap)
  obtain ⟨hl, hr⟩ := byte_pair (clampNat_lt (by decide : 1 ≤ 15) (by decide : 15 < 16) r.lossRun)
    (clampNat_lt (by decide : 1 ≤ 15) (by decide : 15 < 16) r.recoveryRun)
  obtain ⟨g0, g1, g2, ga, gb⟩ := gates_read r.gateI.enable r.gateA.enable r.gateB.enable r.gateA.mode r.gateB.mode
  simp only [slotOfBytes, slotToBytes, slotClamp, gateOfBytes, gateBytes, gateClamp, u16Bytes, s16Bytes, List.cons_append,
    List.nil_append, u16At, s16At, byteAt_zero, byteAt_succ, hs, hd, f0, f1, f2, f3, f4, f5, f6, f7, htx, hrx, ht, hg,
    hl, hr, g0, g1, g2, ga, gb, hfirst, gateAMode_code hmode, gateBMode_code, ite_look, byteOf_clamp, u16_clamp, s16_clamp,
    Nat.reduceLeDiff, Nat.reduceLT, Int.reduceLE, Int.reduceLT, Int.reduceNeg]
  have hcode := areaOfCode_code r.area
  unfold areaCode at hq hc hcode
  cases harea : r.area with
  | none | some =>
    simp only [harea] at hq hc hcode ⊢
    simp only [hq, hc, hcode]

/-! The store access of a setup frame in SETUP and READY (R174, R184). -/

/-- A setup frame stored: the access ends in SETUP with what was stored standing. -/
theorem setupStore_stored {s s1 u : State} {r : RxReq} (htake : takeRx asSetup s = some (r, s1))
    (hstore : storeFrame r s1 = afterStore u) (hcalm : Calm u) (hrun : u.link.run = .setup ∨ u.link.run = .ready) :
    ∃ g gr k q l, exec .setupFrameStore s = .next { u with
        store := { u.store with grant := g, grantRun := gr, grantShots := k, scrubReq := q }
        link := l } ∧
      l.run = .setup ∧ l.present = u.link.present ∧ l.counts = u.link.counts ∧ (u.link.run = .ready → l.statusDue = true) := by
  have hexec : exec .setupFrameStore s = .next (release (afterStore u)) := by
    simp only [exec, execSetupFrameStore, runSetupStore, htake, hstore]
  unfold afterStore at hexec
  by_cases hready : u.link.run = .ready
  · rw [if_pos hready] at hexec
    obtain ⟨g, gr, k, q, a, w, hrel⟩ := release_frame (s := setRun .setup u) hcalm
    rw [hrel] at hexec
    exact ⟨g, gr, k, q, { (setRun .setup u).link with access := a, wait := w }, hexec, rfl, rfl, rfl, fun _ => rfl⟩
  · rw [if_neg hready] at hexec
    obtain ⟨g, gr, k, q, a, w, hrel⟩ := release_frame hcalm
    rw [hrel] at hexec
    exact ⟨g, gr, k, q, { u.link with access := a, wait := w }, hexec, hrun.resolve_right hready, rfl, rfl,
      fun h => absurd h hready⟩

/-- The grant of a stored setup frame was not in RUN or HOLD. -/
theorem StoresSetup.granted {s : State} (h : StoresSetup s) : ¬(s.store.grantRun = .run ∨ s.store.grantRun = .hold) := by
  obtain ⟨h1 | h1, -⟩ := h <;> rw [h1] <;> decide

/-- The number of words of a payload. -/
theorem wordsOf_length (p : List Byte) : (wordsOf p).length = (p.length + 3) / 4 := by
  induction p using wordsOf.induct with
  | case1 a b c d rest ih =>
    rw [wordsOf, List.length_cons, ih]
    simp only [List.length_cons]
    omega
  | case2 => rfl
  | case3 a => simp only [wordsOf, List.length_cons, List.length_nil]
  | case4 a b => simp only [wordsOf, List.length_cons, List.length_nil]
  | case5 a b c => simp only [wordsOf, List.length_cons, List.length_nil]

theorem stationToBytes_length (r : StationRecord) : (stationToBytes r).length = 31 := by
  simp only [stationToBytes, u16Bytes, s16Bytes, List.length_append, List.length_cons, List.length_nil]

theorem slotToBytes_length (r : SlotRecord) : (slotToBytes r).length = 48 := by
  simp only [slotToBytes, gateBytes, u16Bytes, s16Bytes, List.length_append, List.length_cons, List.length_nil]

/-- A stored station record reads back (R182). -/
theorem stationOfWords_clamp (p : List Byte) :
    stationOfWords (wordsOf (stationToBytes (stationClamp (stationOfBytes p)))) = stationClamp (stationOfBytes p) := by
  unfold stationOfWords
  rw [bytes_of_wordsOf]
  exact stationOfBytes_clamp _ (Nat.mod_lt _ (by decide)) _

/-- A stored slot record reads back (R182). -/
theorem slotOfWords_clamp (p : List Byte) :
    slotOfWords (wordsOf (slotToBytes (slotClamp (slotOfBytes p)))) = slotClamp (slotOfBytes p) := by
  unfold slotOfWords
  rw [bytes_of_wordsOf]
  exact slotOfBytes_clamp _ (slotOfBytes_codes p) _

/-- What a stored station record loads (R4, R157, R182). -/
def loadStation (r : StationRecord) (u : State) : State :=
  { u with odo := odoLoad r u.odo, mark := markLoad r u.mark, link := { u.link with present := true } }

theorem storeFrame_station {s : State} (p : List Byte) (h : ¬(s.store.grantRun = .run ∨ s.store.grantRun = .hold)) :
    storeFrame (.station p) s = afterStore (loadStation (stationClamp (stationOfBytes p))
      (writeWords 0 (stationWords (stationClamp (stationOfBytes p))) s)) := by
  unfold storeFrame
  rw [if_neg h]
  rfl

/-- Settles O43. -/
theorem stationRecordIsStored : Obligations.StationRecordIsStored := by
  intro s s1 p htake hlen hsetup hm hcalm r
  obtain ⟨-, x, rest, -, -, hs1⟩ := takeRx_spec htake
  have hm1 : MemoryForm s1 := by subst hs1; exact hm
  have hcalm1 : Calm s1 := by subst hs1; exact hcalm
  have hrun : s1.link.run = .setup ∨ s1.link.run = .ready := by subst hs1; exact hsetup.2
  have hgrant : ¬(s1.store.grantRun = .run ∨ s1.store.grantRun = .hold) := by subst hs1; exact StoresSetup.granted hsetup
  have hround : stationOfWords (wordsOf (stationToBytes r)) = r := stationOfWords_clamp p
  have hstore : storeFrame (.station p) s1 = afterStore (loadStation r (writeWords 0 (stationWords r) s1)) :=
    storeFrame_station p hgrant
  have hlw : (wordsOf (stationToBytes r)).length = 8 := by rw [wordsOf_length, stationToBytes_length]
  have hlength : (stationWords r).length = 16 := by
    rw [stationWords, List.length_append, hlw, List.length_replicate]
  have hword (b : Nat) := writeWords_word hm1 (stationWords r) 0 b (by rw [hlength]; decide)
  have hread := writeWords_read hm1 (wordsOf (stationToBytes r)) (List.replicate 8 0) 0 (by rw [← stationWords, hlength]; decide)
  have hframe := writeWords_frame 0 (stationWords r) s1
  rw [← stationWords] at hread
  clear_value r
  simp only [hlength, hlw, Nat.zero_add, Nat.zero_le, true_and, Nat.sub_zero] at hword hread
  generalize writeWords 0 (stationWords r) s1 = u at hword hread hframe hstore
  obtain ⟨g, gr, k, q, l, hexec, hlrun, hpresent, hcounts, hdue⟩ := setupStore_stored htake hstore
    (by rw [hframe]; exact hcalm1) (by rw [hframe]; exact hrun)
  refine ⟨_, hexec, ?_, fun a h8 h16 => ?_, fun a h16 => ?_, fun a h16 => ?_, hpresent, hlrun, fun h => hdue ?_, ?_, ?_, ?_, ?_, ?_,
    ?_⟩
  · exact (congrArg stationOfWords hread).trans hround
  · refine (hword a).trans ?_
    rw [if_pos h16, stationWords, List.getD_eq_getElem?_getD, List.getElem?_append_right (by rw [hlw]; exact h8)]
    rw [← List.getD_eq_getElem?_getD, List.getD_replicate _ (by omega)]
  · exact (congrArg StoreWord.changed (hword a)).trans (by rw [if_pos h16])
  · refine (hword a).trans ?_
    rw [if_neg (by omega)]
    subst hs1
    rfl
  · rw [hframe, hs1]; exact h
  · rw [hframe, hs1]; rfl
  · rw [hframe, hs1]; rfl
  · refine hcounts.trans ?_
    rw [hframe, hs1]
    rfl
  · rw [hframe, hs1]; rfl
  · rw [hframe, hs1]; rfl
  · rw [hframe, hs1]; rfl

/-- What a stored slot record changes beside its words (R35). -/
def loadSlot (n : Slot) (u : State) : State :=
  { u with sched := { u.sched with storeDamaged := put u.sched.storeDamaged n false } }

theorem storeFrame_slot {s : State} {p : List Byte} {n : Slot} (h : ¬(s.store.grantRun = .run ∨ s.store.grantRun = .hold))
    (hn : (p.getD 0 0).toNat % 16 = n.val) :
    storeFrame (.slot p) s = afterStore (loadSlot n
      (writeWords (slotBase n) (slotWords (slotClamp (slotOfBytes p))) s)) := by
  have hslot : Fin.ofNat 12 (slotClamp (slotOfBytes p)).slot = n := by
    refine Fin.ext ?_
    show bits (byteAt p 0) 0 4 % 12 = n.val
    rw [bits_zero, byteAt_getD, show 2 ^ 4 = 16 from rfl, hn]
    exact Nat.mod_eq_of_lt n.isLt
  unfold storeFrame
  rw [if_neg h]
  simp only [storeSlot, hslot, loadSlot]

/-- The curve area of a slot record's bytes (R182). -/
theorem area_of_bytes (p : List Byte) :
    (slotOfBytes p).area.map (·.val) = if (p.getD 4 0).toNat / 16 < 8 then some ((p.getD 4 0).toNat / 16) else none := by
  have h4 := byteAt_lt p 4
  have h5 := byteAt_lt p (4 + 1)
  have hcode : bits (u16At p 4) 12 4 = byteAt p 4 / 16 := by
    have hdiv : (byteAt p 4 * 256 + byteAt p (4 + 1)) / 4096 = byteAt p 4 / 16 := by omega
    unfold bits u16At
    rw [show 2 ^ 12 = 4096 from rfl, hdiv]
    omega
  show (areaOfCode (bits (u16At p 4) 12 4)).map (·.val) = _
  rw [hcode, ← byteAt_getD, areaOfCode]
  split <;> rfl

theorem slotBase_add_le (n : Slot) : slotBase n + 24 ≤ storeSize := by
  have hn := n.isLt
  unfold slotBase
  rw [show storeSize = 1024 from rfl]
  omega

/-- Settles O44. -/
theorem slotRecordIsStored : Obligations.SlotRecordIsStored := by
  intro s s1 p n htake hlen hn hsetup hm hcalm modeA modeB area
  obtain ⟨-, x, rest, -, -, hs1⟩ := takeRx_spec htake
  have hm1 : MemoryForm s1 := by subst hs1; exact hm
  have hcalm1 : Calm s1 := by subst hs1; exact hcalm
  have hrun : s1.link.run = .setup ∨ s1.link.run = .ready := by subst hs1; exact hsetup.2
  have hgrant : ¬(s1.store.grantRun = .run ∨ s1.store.grantRun = .hold) := by subst hs1; exact StoresSetup.granted hsetup
  have hround := slotOfWords_clamp p
  have hstore := storeFrame_slot hgrant hn
  have hmodeA : (slotClamp (slotOfBytes p)).gateA.mode = if modeA = 0 then .first else .peak := rfl
  have hmodeB : (slotClamp (slotOfBytes p)).gateB.mode =
    if modeB = 0 then .first else if modeB = 1 then .peak else .absence := rfl
  have harea : (slotClamp (slotOfBytes p)).area.map (·.val) = if area < 8 then some area else none := area_of_bytes p
  have hrange : slotClamp (slotOfBytes p) = slotInRange (slotOfBytes p) := rfl
  generalize slotClamp (slotOfBytes p) = r at hround hstore hmodeA hmodeB harea hrange
  have hlw : (wordsOf (slotToBytes r)).length = 12 := by rw [wordsOf_length, slotToBytes_length]
  have hlength : (slotWords r).length = 24 := by
    rw [slotWords, List.length_append, hlw, List.length_replicate]
  have hword (b : Nat) := writeWords_word hm1 (slotWords r) (slotBase n) b (by rw [hlength]; exact slotBase_add_le n)
  have hread := writeWords_read hm1 (wordsOf (slotToBytes r)) (List.replicate 12 0) (slotBase n)
    (by rw [← slotWords, hlength]; exact slotBase_add_le n)
  have hframe := writeWords_frame (slotBase n) (slotWords r) s1
  rw [← slotWords] at hread
  simp only [hlength, hlw] at hword hread
  generalize writeWords (slotBase n) (slotWords r) s1 = u at hword hread hframe hstore
  obtain ⟨g, gr, k, q, l, hexec, hlrun, hpresent, hcounts, hdue⟩ := setupStore_stored htake hstore
    (by rw [hframe]; exact hcalm1) (by rw [hframe]; exact hrun)
  have hslot : slotOfWords ((List.range 12).map fun k => (u.word (slotBase n + k)).data) = r :=
    (congrArg slotOfWords hread).trans hround
  refine ⟨_, hexec, hslot.trans hrange, ?_, ?_, ?_, fun k hk => ?_, fun a ha => ?_, ?_, fun m hmn => ?_, hlrun, ?_, ?_, ?_, ?_⟩
  · exact (congrArg (·.gateA.mode) hslot).trans hmodeA
  · exact (congrArg (·.gateB.mode) hslot).trans hmodeB
  · exact (congrArg (·.area.map (·.val)) hslot).trans harea
  · exact (congrArg StoreWord.changed (hword (slotBase n + k))).trans (by rw [if_pos (by omega)])
  · refine (hword a).trans ?_
    rw [if_neg (by omega)]
    subst hs1
    rfl
  · exact (put_get u.sched.storeDamaged n n false).trans (if_pos rfl)
  · refine (put_get u.sched.storeDamaged n m false).trans ?_
    rw [if_neg hmn, hframe, hs1]
  · refine hcounts.trans ?_
    rw [hframe, hs1]
    rfl
  · rw [hframe, hs1]; rfl
  · rw [hframe, hs1]; rfl
  · rw [hframe, hs1]; rfl

/-- A curve point reads back from its word (R182). -/
theorem pointOfWord_pointWord {time : Nat} {gain : Int} (ht : time < 65536) (h1 : -32768 ≤ gain) (h2 : gain < 32768) :
    pointOfWord (pointWord time gain) = (time, gain) := by
  have htime : (pointWord time gain).extractLsb' 16 16 = BitVec.ofNat 16 time := BitVec.extractLsb'_append_eq_left
  have hgain : (pointWord time gain).extractLsb' 0 16 = BitVec.ofInt 16 gain := BitVec.extractLsb'_append_eq_right
  have hint : (BitVec.ofInt 16 gain).toInt = gain := by
    rw [BitVec.toInt_ofInt]
    exact Int.bmod_eq_of_le (by omega) (by omega)
  unfold pointOfWord
  rw [htime, hgain, hint, BitVec.toNat_ofNat, Nat.mod_eq_of_lt ht]

/-- The points of a frame's curve piece, clamped (R58). -/
theorem curveWords_point (p : List Byte) {k : Nat} (hk : k < 4) :
    pointOfWord ((curveWords p).getD k 0) =
      (min 16383 (u16At p (2 + 3 * k)), max (-40) (min 40 (s8At p (4 + 3 * k)))) := by
  have hpoint : (curveWords p).getD k 0 =
      pointWord (min 16383 (u16At p (2 + 3 * k))) (max (-40) (min 40 (s8At p (4 + 3 * k)))) := by
    interval_cases k <;> exact congrArg (pointWord · _) (Nat.zero_max _)
  rw [hpoint]
  exact pointOfWord_pointWord (by omega) (by omega) (by omega)

/-- What a stored curve piece changes beside its words (R58). -/
def loadPiece (a : Area) (b : Piece) (u : State) : State :=
  { u with gain := { u.gain with pieces := put u.gain.pieces a (put u.gain.pieces[a] b true) } }

theorem storeFrame_curve {s : State} {p : List Byte} {a : Area} {b : Piece}
    (h : ¬(s.store.grantRun = .run ∨ s.store.grantRun = .hold)) (ha : (p.getD 0 0).toNat = a.val)
    (hb : (p.getD 1 0).toNat = b.val) :
    storeFrame (.curve p) s = afterStore (loadPiece a b (writeWords (pointAddr a (4 * b.val)) (curveWords p) s)) := by
  have harea : Fin.ofNat 8 (byteAt p 0) = a := Fin.ext (by rw [byteAt_getD, ha]; exact Nat.mod_eq_of_lt a.isLt)
  have hpiece : Fin.ofNat 4 (byteAt p 1) = b := Fin.ext (by rw [byteAt_getD, hb]; exact Nat.mod_eq_of_lt b.isLt)
  unfold storeFrame
  rw [if_neg h]
  simp only [storeCurve, harea, hpiece, loadPiece]

theorem pointAddr_add_le (a : Area) (b : Piece) : pointAddr a (4 * b.val) + 4 ≤ storeSize := by
  have ha := a.isLt
  have hb := b.isLt
  unfold pointAddr
  rw [show storeSize = 1024 from rfl]
  omega

/-- Settles O45. -/
theorem curvePieceIsStored : Obligations.CurvePieceIsStored := by
  intro s s1 p a b htake hlen ha hb hsetup hm hcalm
  obtain ⟨-, x, rest, -, -, hs1⟩ := takeRx_spec htake
  have hm1 : MemoryForm s1 := by subst hs1; exact hm
  have hcalm1 : Calm s1 := by subst hs1; exact hcalm
  have hrun : s1.link.run = .setup ∨ s1.link.run = .ready := by subst hs1; exact hsetup.2
  have hgrant : ¬(s1.store.grantRun = .run ∨ s1.store.grantRun = .hold) := by subst hs1; exact StoresSetup.granted hsetup
  have hstore := storeFrame_curve hgrant ha hb
  have hlength : (curveWords p).length = 4 := rfl
  have hword (c : Nat) := writeWords_word hm1 (curveWords p) (pointAddr a (4 * b.val)) c
    (by rw [hlength]; exact pointAddr_add_le a b)
  have hframe := writeWords_frame (pointAddr a (4 * b.val)) (curveWords p) s1
  simp only [hlength] at hword
  generalize writeWords (pointAddr a (4 * b.val)) (curveWords p) s1 = u at hword hframe hstore
  obtain ⟨g, gr, k, q, l, hexec, hlrun, hpresent, hcounts, hdue⟩ := setupStore_stored htake hstore
    (by rw [hframe]; exact hcalm1) (by rw [hframe]; exact hrun)
  refine ⟨_, hexec, fun k hk => ?_, fun x hx => ?_, ?_, fun a' b' hne => ?_, hlrun, ?_, ?_, ?_⟩
  · rw [show pointAddr a (4 * b.val + k) = pointAddr a (4 * b.val) + k from (Nat.add_assoc _ _ _).symm]
    show pointOfWord (u.word (pointAddr a (4 * b.val) + k)).data = _
    rw [hword, if_pos (by omega), Nat.add_sub_cancel_left]
    exact curveWords_point p hk
  · refine (hword x).trans ?_
    rw [if_neg (by omega)]
    subst hs1
    rfl
  · show (put u.gain.pieces a (put u.gain.pieces[a] b true))[a][b] = true
    rw [put_get, if_pos rfl, put_get, if_pos rfl]
  · have hpieces : u.gain.pieces = s.gain.pieces := by rw [hframe, hs1]
    show (put u.gain.pieces a (put u.gain.pieces[a] b true))[a'][b'] = s.gain.pieces[a'][b']
    rw [put_get, hpieces]
    by_cases haa : a' = a
    · subst haa
      rw [if_pos rfl, put_get, if_neg (fun h => hne ⟨rfl, h⟩)]
    · rw [if_neg haa]
  · rw [hframe, hs1]; rfl
  · rw [hframe, hs1]; rfl
  · rw [hframe, hs1]; rfl

end Sys2Proof.Machine

end

section
/-! PROOFS. The checks of a CLOSE SETUP (R60, R73, R92, R183). -/

namespace Sys2Proof.Machine

/-! The thresholds of a slot record rewritten (R183). -/

/-- A slot record with Nwatch and Awatch clamped (R183). -/
def watchClamped (r : SlotRecord) : SlotRecord := { r with nwatch := min r.nwatch r.nrep, awatch := min r.awatch r.arep }

theorem thresholdWords_eq (r : SlotRecord) : thresholdWords r =
    [byteOf r.nrep ++ byteOf r.nwatch ++ byteOf (r.arep / 256) ++ byteOf r.arep,
      byteOf (r.awatch / 256) ++ byteOf r.awatch ++ byteOf (r.asev / 256) ++ byteOf r.asev] := by
  simp only [thresholdWords, u16Bytes, List.cons_append, List.nil_append, wordsOf]

theorem u16At_lt (p : List Byte) (i : Nat) : u16At p i < 65536 := by
  have h1 := byteAt_lt p i
  have h2 := byteAt_lt p (i + 1)
  unfold u16At
  omega

/-- The thresholds written back: the record differs in Nwatch and Awatch alone. -/
theorem slotBy_thresholds {f g : Nat → Word} (h : ∀ k < 10, g k = f k)
    (h10 : g 10 = (thresholdWords (watchClamped (slotBy f))).getD 0 0)
    (h11 : g 11 = (thresholdWords (watchClamped (slotBy f))).getD 1 0) : slotBy g = watchClamped (slotBy f) := by
  have hf10 (f : Nat → Word) : (slotBy f).nrep = byteAt (bytesOf (f 10)) 0 ∧ (slotBy f).nwatch = byteAt (bytesOf (f 10)) 1 ∧
      (slotBy f).arep = u16At (bytesOf (f 10)) 2 := ⟨rfl, rfl, rfl⟩
  have hf11 (f : Nat → Word) : (slotBy f).awatch = u16At (bytesOf (f 11)) 0 ∧ (slotBy f).asev = u16At (bytesOf (f 11)) 2 :=
    ⟨rfl, rfl⟩
  obtain ⟨gnrep, gnwatch, garep⟩ := hf10 g
  obtain ⟨gawatch, gasev⟩ := hf11 g
  have hnrep : (slotBy f).nrep < 256 := by rw [(hf10 f).1]; exact byteAt_lt _ _
  have hnwatch : min (slotBy f).nwatch (slotBy f).nrep < 256 := lt_of_le_of_lt (Nat.min_le_right _ _) hnrep
  have harep : (slotBy f).arep < 65536 := by rw [(hf10 f).2.2]; exact u16At_lt _ _
  have hawatch : min (slotBy f).awatch (slotBy f).arep < 65536 := lt_of_le_of_lt (Nat.min_le_right _ _) harep
  have hasev : (slotBy f).asev < 65536 := by rw [(hf11 f).2]; exact u16At_lt _ _
  have hb {n : Nat} (hn : n < 256) : (byteOf n).toNat = n := (byteOf_toNat n).trans (Nat.mod_eq_of_lt hn)
  rw [thresholdWords_eq] at h10 h11
  rw [slotBy_congr h, gnrep, gnwatch, garep, gawatch, gasev, h10, h11]
  simp only [List.getD_cons_zero, List.getD_cons_succ, bytesOf_append, u16At, byteAt_zero, byteAt_succ, watchClamped,
    byteOf_u16 harep, byteOf_u16 hawatch, byteOf_u16 hasev, hb hnrep, hb hnwatch]

/-! The checks on a sound setup area. -/

/-- Every word of the setup area behind the station record stands as last written. -/
def SetupSound (s : State) : Prop := ∀ a, 16 ≤ a → a < 432 → (s.word a).changed = 0

theorem SetupSound.slot {s : State} (h : SetupSound s) (n : Slot) {ks : List Nat} (hks : ∀ k ∈ ks, k < 24) : SoundSlot s n ks := by
  intro a ha
  obtain ⟨k, hk, rfl⟩ := List.mem_map.1 ha
  have hlt := hks k hk
  have hn := n.isLt
  exact h _ (by unfold slotBase; omega) (by unfold slotBase; omega)

theorem SetupSound.curve {s : State} (h : SetupSound s) (a : Area) : Sound s ((List.range 16).map (pointAddr a)) := by
  intro x hx
  obtain ⟨k, hk, rfl⟩ := List.mem_map.1 hx
  have hlt := List.mem_range.1 hk
  have ha := a.isLt
  exact h _ (by unfold pointAddr; omega) (by unfold pointAddr; omega)

/-- What the clamping of the watch thresholds leaves: the records of the slots `ns` are clamped, and nothing else changes. -/
structure WatchClamped (ns : List Slot) (s t : State) : Prop where
  frame : t = { s with store := { s.store with cells := t.store.cells } }
  memory : MemoryForm t
  sound : SetupSound t
  slots : ∀ n, slotAt t n = if n ∈ ns then watchClamped (slotAt s n) else slotAt s n
  others : ∀ a, 304 ≤ a → t.word a = s.word a

/-- The two words of a slot record that hold its thresholds. -/
theorem clampWatch_word {s : State} (hm : MemoryForm s) (n : Slot) (r : SlotRecord) (b : Nat) :
    (writeWords (slotBase n + 10) (thresholdWords r) s).word b =
      if slotBase n + 10 ≤ b ∧ b < slotBase n + 12 then ⟨(thresholdWords r).getD (b - (slotBase n + 10)) 0, 0⟩ else s.word b := by
  have hle := slotBase_add_le n
  have hlen : (thresholdWords r).length = 2 := by rw [thresholdWords_eq]; rfl
  rw [writeWords_word hm _ _ _ (by rw [hlen]; omega), hlen]

theorem slotRead_thresholds (n : Slot) (s : State) :
    thresholdWords (watchClamped (slotRead n [10, 11] s)) = thresholdWords (watchClamped (slotAt s n)) := by
  have h10 : 10 ∈ [10, 11] := by decide
  have h11 : 11 ∈ [10, 11] := by decide
  rw [thresholdWords_eq, thresholdWords_eq]
  simp only [watchClamped, slotRead_nrep h10, slotRead_nwatch h10, slotRead_arep h10, slotRead_awatch h11, slotRead_asev h11]

theorem clampWatch_eq {s : State} {n : Slot} (h : SoundSlot s n [10, 11]) :
    clampWatch s n = writeWords (slotBase n + 10) (thresholdWords (watchClamped (slotAt s n))) s := by
  unfold clampWatch
  rw [readSlot_sound h, ← slotRead_thresholds]
  rfl

theorem clampWatch_sound {s : State} (hm : MemoryForm s) (hs : SetupSound s) (n : Slot) : WatchClamped [n] s (clampWatch s n) := by
  rw [clampWatch_eq (hs.slot n (by decide))]
  have hword := clampWatch_word hm n (watchClamped (slotAt s n))
  have hframe := writeWords_frame (slotBase n + 10) (thresholdWords (watchClamped (slotAt s n))) s
  have hkeeps := (writeWords_keeps (thresholdWords (watchClamped (slotAt s n))) (slotBase n + 10) s).memory hm
  generalize writeWords (slotBase n + 10) (thresholdWords (watchClamped (slotAt s n))) s = t at hword hframe hkeeps ⊢
  refine ⟨hframe, hkeeps, fun a h1 h2 => ?_, fun m => ?_, fun a ha => ?_⟩
  · rw [hword]
    split
    · rfl
    · exact hs a h1 h2
  · rw [slotAt_eq, slotAt_eq]
    by_cases hmn : m = n
    · subst hmn
      rw [if_pos List.mem_cons_self]
      refine slotBy_thresholds (fun k hk => ?_) ?_ ?_
      · rw [hword, if_neg (by omega)]
      · rw [hword, if_pos (by omega), Nat.sub_self]
        rfl
      · rw [hword, if_pos (by omega), Nat.add_sub_add_left]
        rfl
    · rw [if_neg (by simpa using hmn)]
      have hne : m.val ≠ n.val := fun h => hmn (Fin.ext h)
      refine congrArg slotOfWords (List.map_congr_left fun k hk => ?_)
      have hk := List.mem_range.1 hk
      rw [hword, if_neg]
      unfold slotBase
      omega
  · have hn := n.isLt
    rw [hword, if_neg]
    unfold slotBase
    omega

theorem clampWatches_sound {s : State} (hm : MemoryForm s) (hs : SetupSound s) {ns : List Slot} (hns : ns.Nodup) :
    WatchClamped ns s (ns.foldl clampWatch s) := by
  induction ns generalizing s with
  | nil => exact ⟨rfl, hm, hs, fun n => by rw [if_neg List.not_mem_nil]; rfl, fun _ _ => rfl⟩
  | cons n rest ih =>
    obtain ⟨hnot, hrest⟩ := List.nodup_cons.1 hns
    obtain ⟨f1, m1, s1, r1, o1⟩ := clampWatch_sound hm hs n
    obtain ⟨f2, m2, s2, r2, o2⟩ := ih m1 s1 hrest
    rw [List.foldl_cons]
    generalize clampWatch s n = u at f1 m1 s1 r1 o1 f2 m2 s2 r2 o2 ⊢
    generalize rest.foldl clampWatch u = t at f2 m2 s2 r2 o2 ⊢
    refine ⟨?_, m2, s2, fun m => ?_, fun a ha => (o2 a ha).trans (o1 a ha)⟩
    · rw [f2, f1]
    · rw [r2, r1]
      by_cases hmn : m = n
      · subst hmn
        rw [if_neg hnot, if_pos List.mem_cons_self, if_pos List.mem_cons_self]
      · simp only [List.mem_cons, hmn, List.not_mem_nil, or_false, false_or, if_false]

/-- The flat-gain mark that the check gives a slot (R60). -/
def flatMark (s : State) (n : Slot) : FlatGain :=
  match (slotAt s n).area with
  | none => .clear
  | some a => if areaComplete s.gain.pieces[a] then if strictlyRising (curveAt s a) then .clear else .order else .incomplete

theorem flatCheck_sound {s : State} (hs : SetupSound s) {n : Slot} (hd : s.sched.storeDamaged[n] = false) :
    flatCheck s n = setFlat n (flatMark s n) s := by
  have harea : (slotRead n [1] s).area = (slotAt s n).area := slotRead_area List.mem_cons_self
  unfold flatCheck
  rw [readSlot_sound (hs.slot n (by decide))]
  simp only [hd, harea, Bool.false_eq_true, if_false]
  unfold flatByArea flatMark
  cases (slotAt s n).area with
  | none => rfl
  | some a =>
    by_cases hcomplete : areaComplete s.gain.pieces[a] = true
    · simp only [hcomplete, if_true, readCurve_sound (hs.curve a)]
    · simp only [hcomplete, Bool.false_eq_true, if_false]

/-- The flat-gain marks, the gate marks and the slots' coupling replaced. -/
def withFlats (s : State) (v : Vector FlatGain 12) : State := { s with gain := { s.gain with flat := v } }

def withGates (s : State) (u : GateUnit) : State := { s with gates := u }

def withSlots (s : State) (v : Vector SlotCoupling 12) : State := { s with coup := { s.coup with slots := v } }

theorem flatChecks_sound {s : State} (hs : SetupSound s) (hd : ∀ n : Slot, s.sched.storeDamaged[n] = false) (ns : List Slot) :
    ns.foldl flatCheck s = withFlats s (ns.foldl (fun v n => put v n (flatMark s n)) s.gain.flat) := by
  have hstep (v : Vector FlatGain 12) (n : Slot) : flatCheck (withFlats s v) n = withFlats s (put v n (flatMark s n)) :=
    flatCheck_sound (s := withFlats s v) hs (hd n)
  exact List.foldl_hom (withFlats s) hstep

/-- The marks that the gate check gives a slot (R73). -/
def gatesMarked (s : State) (u : GateUnit) (n : Slot) : GateUnit :=
  { offI := put u.offI n (gateOff (slotAt s n).gateI), offA := put u.offA n (gateOff (slotAt s n).gateA)
    offB := put u.offB n (gateOff (slotAt s n).gateB)
    syncOff := put u.syncOff n ((slotAt s n).interfaceSync && (!(slotAt s n).gateI.enable || gateOff (slotAt s n).gateI)) }

theorem slotRead_gates {n : Slot} {ks : List Nat} {s : State} (h4 : 4 ∈ ks) :
    (slotRead n ks s).gateI.enable = (slotAt s n).gateI.enable ∧ (slotRead n ks s).gateB.enable = (slotAt s n).gateB.enable ∧
      (slotRead n ks s).gateB.mode = (slotAt s n).gateB.mode := by
  have hf (f : Nat → Word) : (slotBy f).gateI.enable = bit (byteAt (bytesOf (f 4)) 2) 0 ∧
      (slotBy f).gateB.enable = bit (byteAt (bytesOf (f 4)) 2) 2 ∧
      (slotBy f).gateB.mode = gateBMode (bits (byteAt (bytesOf (f 4)) 2) 5 2) := ⟨rfl, rfl, rfl⟩
  simp [slotRead, slotAt_eq, hf, h4]

theorem slotRead_gateOff {n : Slot} {ks : List Nat} {s : State} (h4 : 4 ∈ ks) (h5 : 5 ∈ ks) (h6 : 6 ∈ ks) (h7 : 7 ∈ ks)
    (h8 : 8 ∈ ks) :
    gateOff (slotRead n ks s).gateI = gateOff (slotAt s n).gateI ∧ gateOff (slotRead n ks s).gateA = gateOff (slotAt s n).gateA ∧
      gateOff (slotRead n ks s).gateB = gateOff (slotAt s n).gateB := by
  have hI (f : Nat → Word) : gateOff (slotBy f).gateI = (bit (byteAt (bytesOf (f 4)) 2) 0 &&
      decide (u16At (bytesOf (f 5)) 1 ≤ byteAt (bytesOf (f 4)) 3 * 256 + byteAt (bytesOf (f 5)) 0)) := rfl
  have hA (f : Nat → Word) : gateOff (slotBy f).gateA = (bit (byteAt (bytesOf (f 4)) 2) 1 &&
      decide (byteAt (bytesOf (f 6)) 3 * 256 + byteAt (bytesOf (f 7)) 0 ≤ u16At (bytesOf (f 6)) 1)) := rfl
  have hB (f : Nat → Word) : gateOff (slotBy f).gateB = (bit (byteAt (bytesOf (f 4)) 2) 2 &&
      decide (u16At (bytesOf (f 8)) 1 ≤ byteAt (bytesOf (f 7)) 3 * 256 + byteAt (bytesOf (f 8)) 0)) := rfl
  simp [slotRead, slotAt_eq, hI, hA, hB, h4, h5, h6, h7, h8]

theorem gateCheck_sound {s : State} (hs : SetupSound s) {n : Slot} (hd : s.sched.storeDamaged[n] = false) :
    gateCheck s n = withGates s (gatesMarked s s.gates n) := by
  obtain ⟨hI, hA, hB⟩ := slotRead_gateOff (n := n) (ks := [0, 4, 5, 6, 7, 8]) (s := s) (by decide) (by decide) (by decide)
    (by decide) (by decide)
  obtain ⟨hen, -, -⟩ := slotRead_gates (n := n) (ks := [0, 4, 5, 6, 7, 8]) (s := s) (by decide)
  have hsync := slotRead_interfaceSync (n := n) (ks := [0, 4, 5, 6, 7, 8]) (s := s) (by decide)
  unfold gateCheck
  rw [readSlot_sound (hs.slot n (by decide))]
  simp only [hd, hI, hA, hB, hen, hsync, Bool.false_eq_true, if_false]
  rfl

theorem gateChecks_sound {s : State} (hs : SetupSound s) (hd : ∀ n : Slot, s.sched.storeDamaged[n] = false) (ns : List Slot) :
    ns.foldl gateCheck s = withGates s (ns.foldl (gatesMarked s) s.gates) := by
  have hstep (u : GateUnit) (n : Slot) : gateCheck (withGates s u) n = withGates s (gatesMarked s u n) :=
    gateCheck_sound (s := withGates s u) hs (hd n)
  exact List.foldl_hom (withGates s) hstep

/-- The gate marks of every slot after the checks. -/
theorem gatesMarked_get (s : State) (u : GateUnit) (n : Slot) :
    (allSlots.foldl (gatesMarked s) u).offI[n] = gateOff (slotAt s n).gateI ∧
      (allSlots.foldl (gatesMarked s) u).offA[n] = gateOff (slotAt s n).gateA ∧
      (allSlots.foldl (gatesMarked s) u).offB[n] = gateOff (slotAt s n).gateB ∧
      (allSlots.foldl (gatesMarked s) u).syncOff[n] =
        ((slotAt s n).interfaceSync && (!(slotAt s n).gateI.enable || gateOff (slotAt s n).gateI)) := by
  have hget (p : GateUnit → Vector Bool 12) (f : Slot → Bool) (h : ∀ u n, put (p u) n (f n) = p (gatesMarked s u n)) :
      (p (allSlots.foldl (gatesMarked s) u))[n] = f n := by
    rw [← List.foldl_hom p (g₂ := fun v n => put v n (f n)) h, foldl_put_get, if_pos (mem_allSlots n)]
  exact ⟨hget (·.offI) _ fun _ _ => rfl, hget (·.offA) _ fun _ _ => rfl, hget (·.offB) _ fun _ _ => rfl,
    hget (·.syncOff) _ fun _ _ => rfl⟩

/-- The effective source that the check gives a slot (R92). -/
def sourceOf (s : State) (n : Slot) : CouplingSource := effectiveSource (slotAt s n) s.gates.offI[n] s.gates.offB[n]

theorem sourceCheck_sound {s : State} (hs : SetupSound s) {n : Slot} (hd : s.sched.storeDamaged[n] = false) :
    sourceCheck s n = withSlots s (put s.coup.slots n { s.coup.slots[n] with source := sourceOf s n }) := by
  obtain ⟨hen, henB, hmode⟩ := slotRead_gates (n := n) (ks := [0, 4]) (s := s) (by decide)
  have hsource := slotRead_sourceGateB (n := n) (ks := [0, 4]) (s := s) (by decide)
  have heff : effectiveSource (slotRead n [0, 4] s) s.gates.offI[n] s.gates.offB[n] = sourceOf s n := by
    unfold sourceOf effectiveSource
    rw [hen, henB, hmode, hsource]
  unfold sourceCheck
  rw [readSlot_sound (hs.slot n (by decide))]
  simp only [hd, heff, Bool.false_eq_true, if_false]
  rfl

theorem sourceChecks_sound {s : State} (hs : SetupSound s) (hd : ∀ n : Slot, s.sched.storeDamaged[n] = false) (ns : List Slot) :
    ns.foldl sourceCheck s =
      withSlots s (ns.foldl (fun v n => put v n { v[n] with source := sourceOf s n }) s.coup.slots) := by
  have hstep (v : Vector SlotCoupling 12) (n : Slot) :
      sourceCheck (withSlots s v) n = withSlots s (put v n { v[n] with source := sourceOf s n }) :=
    sourceCheck_sound (s := withSlots s v) hs (hd n)
  exact List.foldl_hom (withSlots s) hstep

theorem sources_get (f : Slot → CouplingSource) (ns : List Slot) (v : Vector SlotCoupling 12) (m : Slot) :
    (ns.foldl (fun v n => put v n { v[n] with source := f n }) v)[m].source = if m ∈ ns then f m else v[m].source := by
  induction ns generalizing v with
  | nil => rfl
  | cons n rest ih =>
    rw [List.foldl_cons, ih, put_get]
    by_cases hrest : m ∈ rest
    · rw [if_pos hrest, if_pos (List.mem_cons_of_mem n hrest)]
    · rw [if_neg hrest]
      by_cases hm : m = n
      · subst hm
        rw [if_pos rfl, if_pos List.mem_cons_self]
      · rw [if_neg hm, if_neg fun h => (List.mem_cons.1 h).elim hm hrest]

/-- What the four checks leave on a sound setup area. -/
structure ChecksMade (s t : State) : Prop where
  clamped : ∃ cells flat gates slots, t = { s with
    store := { s.store with cells := cells }, gain := { s.gain with flat := flat }, gates := gates
    coup := { s.coup with slots := slots } }
  records : ∀ n, slotAt t n = watchClamped (slotAt s n)
  flat : ∀ n : Slot, t.gain.flat[n] = flatMark s n
  off : ∀ n : Slot, t.gates.offI[n] = gateOff (slotAt s n).gateI ∧ t.gates.offA[n] = gateOff (slotAt s n).gateA ∧
    t.gates.offB[n] = gateOff (slotAt s n).gateB
  sync : ∀ n : Slot, t.gates.syncOff[n] =
    ((slotAt s n).interfaceSync && (!(slotAt s n).gateI.enable || gateOff (slotAt s n).gateI))
  source : ∀ n : Slot, t.coup.slots[n].source =
    effectiveSource (slotAt s n) (gateOff (slotAt s n).gateI) (gateOff (slotAt s n).gateB)

theorem checkSlots_sound {s : State} (hm : MemoryForm s) (hs : SetupSound s) (hd : ∀ n : Slot, s.sched.storeDamaged[n] = false) :
    ChecksMade s (checkSlots s) := by
  obtain ⟨hframe, -, hsound, hslots, hothers⟩ := clampWatches_sound hm hs (ns := allSlots) (by decide)
  unfold checkSlots
  generalize allSlots.foldl clampWatch s = w at hframe hsound hslots hothers ⊢
  have hdw : ∀ n : Slot, w.sched.storeDamaged[n] = false := by rw [hframe]; exact hd
  have hrecord (n : Slot) : slotAt w n = watchClamped (slotAt s n) := by rw [hslots, if_pos (mem_allSlots n)]
  have hcurve (a : Area) : curveAt w a = curveAt s a :=
    List.map_congr_left fun p _ => by rw [hothers _ (by unfold pointAddr; omega)]
  have hflat (n : Slot) : flatMark w n = flatMark s n := by
    have harea : (slotAt w n).area = (slotAt s n).area := by rw [hrecord]; rfl
    have hpieces : w.gain.pieces = s.gain.pieces := by rw [hframe]
    unfold flatMark
    rw [harea]
    cases (slotAt s n).area with
    | none => rfl
    | some a => simp only [hpieces, hcurve]
  have hget := gatesMarked_get w w.gates
  rw [flatChecks_sound hsound hdw]
  have hflats (n : Slot) := foldl_put_get (flatMark w) allSlots w.gain.flat n
  generalize allSlots.foldl (fun v n => put v n (flatMark w n)) w.gain.flat = F at hflats ⊢
  have hgates := gateChecks_sound (s := withFlats w F) hsound hdw allSlots
  have hmarked : gatesMarked (withFlats w F) = gatesMarked w := rfl
  rw [hgates, hmarked]
  have hunit : (withFlats w F).gates = w.gates := rfl
  rw [hunit]
  generalize allSlots.foldl (gatesMarked w) w.gates = G at hget ⊢
  have hsources := sourceChecks_sound (s := withGates (withFlats w F) G) hsound hdw allSlots
  rw [hsources]
  have hC (n : Slot) := sources_get (sourceOf (withGates (withFlats w F) G)) allSlots
    (withGates (withFlats w F) G).coup.slots n
  generalize allSlots.foldl (fun v n => put v n { v[n] with source := sourceOf (withGates (withFlats w F) G) n })
    (withGates (withFlats w F) G).coup.slots = C at hC ⊢
  refine ⟨⟨w.store.cells, F, G, C, ?_⟩, hrecord, fun n => ?_, fun n => ?_, fun n => ?_, fun n => ?_⟩
  · rw [hframe]
    rfl
  · exact (hflats n).trans (by rw [if_pos (mem_allSlots n), hflat])
  · obtain ⟨hI, hA, hB, -⟩ := hget n
    rw [hrecord] at hI hA hB
    exact ⟨hI, hA, hB⟩
  · obtain ⟨-, -, -, hsync⟩ := hget n
    rw [hrecord] at hsync
    exact hsync
  · obtain ⟨hI, -, hB, -⟩ := hget n
    refine (hC n).trans ?_
    rw [if_pos (mem_allSlots n)]
    show effectiveSource (slotAt w n) G.offI[n] G.offB[n] = _
    rw [hI, hB, hrecord]
    rfl

theorem strictlyRising_iff (l : List (Nat × Int)) : strictlyRising l = true ↔ l.Pairwise (fun x y => x.1 < y.1) := by
  induction l with
  | nil => simp [strictlyRising]
  | cons p rest ih =>
    cases rest with
    | nil => simp [strictlyRising]
    | cons q more =>
      rw [strictlyRising, Bool.and_eq_true, decide_eq_true_iff, ih, List.pairwise_cons (a := p)]
      refine and_congr_left fun hq => ⟨fun hlt x hx => ?_, fun h => h q List.mem_cons_self⟩
      obtain rfl | hx := List.mem_cons.1 hx
      · exact hlt
      · exact hlt.trans (List.rel_of_pairwise_cons hq hx)

/-- The flat-gain mark by the area, its flags and its points (R60). -/
theorem flatMark_spec (s : State) (n : Slot) :
    ((slotAt s n).area = none → flatMark s n = .clear) ∧
      (∀ a, (slotAt s n).area = some a → (∃ b : Piece, (s.gain.pieces[a])[b] = false) → flatMark s n = .incomplete) ∧
      (∀ a, (slotAt s n).area = some a → (∀ b : Piece, (s.gain.pieces[a])[b] = true) →
        ((curveAt s a).Pairwise (fun x y => x.1 < y.1) → flatMark s n = .clear) ∧
        (¬(curveAt s a).Pairwise (fun x y => x.1 < y.1) → flatMark s n = .order)) := by
  refine ⟨fun h => ?_, fun a h ⟨b, hb⟩ => ?_, fun a h hall => ⟨fun hrise => ?_, fun hnot => ?_⟩⟩
  · simp only [flatMark, h]
  · have hw : written s a = false := decide_eq_false fun hall => absurd (hb.symm.trans (hall b)) Bool.false_ne_true
    simp only [flatMark, h, areaComplete_eq, hw, Bool.false_eq_true, if_false]
  · have hw : written s a = true := decide_eq_true hall
    simp only [flatMark, h, areaComplete_eq, hw, if_true, (strictlyRising_iff _).2 hrise]
  · have hw : written s a = true := decide_eq_true hall
    simp only [flatMark, h, areaComplete_eq, hw, if_true, if_neg (mt (strictlyRising_iff _).1 hnot)]

theorem gateOff_iff (g : GateFields) : gateOff g = true ↔ g.enable = true ∧ g.stop ≤ g.start := by
  simp [gateOff]

/-- The effective source by the fields of the record (R92). -/
theorem effectiveSource_spec (r : SlotRecord) :
    let off := fun g : GateFields => g.enable = true ∧ g.stop ≤ g.start
    ((r.sourceGateB = true ∧ r.gateB.enable = true ∧ ¬off r.gateB ∧ r.gateB.mode ≠ .absence) →
        effectiveSource r (gateOff r.gateI) (gateOff r.gateB) = .gateB) ∧
      (¬(r.sourceGateB = true ∧ r.gateB.enable = true ∧ ¬off r.gateB ∧ r.gateB.mode ≠ .absence) →
        effectiveSource r (gateOff r.gateI) (gateOff r.gateB) =
          if r.gateI.enable = true ∧ r.gateI.start < r.gateI.stop then .interface else .none) := by
  intro off
  have hB : (r.sourceGateB && r.gateB.enable && !gateOff r.gateB && r.gateB.mode != .absence) = true ↔
      r.sourceGateB = true ∧ r.gateB.enable = true ∧ ¬off r.gateB ∧ r.gateB.mode ≠ .absence := by
    rw [Bool.and_eq_true, Bool.and_eq_true, Bool.and_eq_true, Bool.not_eq_true', ← Bool.not_eq_true, gateOff_iff, bne_iff_ne,
      and_assoc, and_assoc]
  have hI : (r.gateI.enable && !gateOff r.gateI) = true ↔ r.gateI.enable = true ∧ r.gateI.start < r.gateI.stop := by
    rw [Bool.and_eq_true, Bool.not_eq_true', ← Bool.not_eq_true, gateOff_iff]
    exact and_congr_right fun hen => ⟨fun h => Nat.lt_of_not_le fun hle => h ⟨hen, hle⟩, fun h hoff => absurd hoff.2 (Nat.not_le.2 h)⟩
  refine ⟨fun h => if_pos (hB.2 h), fun h => (if_neg (mt hB.1 h)).trans ?_⟩
  by_cases hi : r.gateI.enable = true ∧ r.gateI.start < r.gateI.stop
  · rw [if_pos hi, if_pos (hI.2 hi)]
  · rw [if_neg hi, if_neg (mt hI.1 hi)]

/-- The end of a CLOSE SETUP: READY when the station record is present (R183, R184). -/
theorem closeSetup_ends {s s1 c : State} (htake : takeRx asChecks s = some ((), s1)) (hrun : s1.link.run = .setup)
    (hc : findAndCheck s1 = c) (hcalm : Calm c) (hcrun : c.link.run = .setup) :
    ∃ g gr k q l, exec .closeSetupChecks s = .next { c with
        store := { c.store with grant := g, grantRun := gr, grantShots := k, scrubReq := q }
        link := l } ∧
      l.run = (if c.link.present then .ready else .setup) ∧ l.counts = c.link.counts := by
  have hexec : exec .closeSetupChecks s = .next (release (runChecks s1)) := by
    simp only [exec, execCloseSetupChecks, htake, hrun, if_true]
  unfold runChecks at hexec
  rw [hc] at hexec
  by_cases hp : c.link.present = true
  · have hruns : (if c.link.present = true then setRun .ready c else c) = setRun .ready c := if_pos hp
    obtain ⟨g, gr, k, q, a, w, hrel⟩ := release_frame (s := setRun .ready c) hcalm
    simp only [hruns, hrel] at hexec
    exact ⟨g, gr, k, q, { (setRun .ready c).link with access := a, wait := w }, hexec, (if_pos hp).symm, rfl⟩
  · have hruns : (if c.link.present = true then setRun .ready c else c) = c := if_neg hp
    obtain ⟨g, gr, k, q, a, w, hrel⟩ := release_frame hcalm
    simp only [hruns, hrel] at hexec
    exact ⟨g, gr, k, q, { c.link with access := a, wait := w }, hexec, hcrun.trans (if_neg hp).symm, rfl⟩

theorem zipWith_or_get (u v : Vector Bool 12) (n : Slot) : (Vector.zipWith (· || ·) u v)[n] = (u[n] || v[n]) := by
  simp only [Fin.getElem_fin, Vector.getElem_zipWith]

/-- The marks found join those that stood; none were found. -/
theorem zipWith_or_clear (u : Vector Bool 12) : Vector.zipWith (· || ·) u (Vector.replicate 12 false) = u := by
  ext i hi
  simp

/-- The checks of a CLOSE SETUP on a sound setup area. -/
theorem findAndCheck_sound {s : State} (hm : MemoryForm s) (hs : SetupSound s) : ChecksMade s (findAndCheck s) := by
  have hmade : ChecksMade (setDamaged (Vector.replicate 12 false) s) (checkSlots (setDamaged (Vector.replicate 12 false) s)) :=
    checkSlots_sound hm hs fun n => replicate_get false n
  unfold findAndCheck
  generalize checkSlots (setDamaged (Vector.replicate 12 false) s) = c at hmade ⊢
  obtain ⟨⟨cells, flat, gates, slots, hc⟩, hrecords, hflat, hoff, hsync, hsource⟩ := hmade
  refine ⟨⟨cells, flat, gates, slots, ?_⟩, hrecords, hflat, hoff, hsync, hsource⟩
  have hmarks : Vector.zipWith (· || ·) s.sched.storeDamaged c.sched.storeDamaged = s.sched.storeDamaged := by
    rw [hc]
    exact zipWith_or_clear s.sched.storeDamaged
  simp only [hmarks]
  rw [hc]
  rfl

/-- The second half of O46: a sound setup area. -/
theorem closeSetup_sound {s s1 : State} (htake : takeRx asChecks s = some ((), s1)) (hrun : s.link.run = .setup)
    (hm : MemoryForm s) (hcalm : Calm s) (hsound : Sound s ((List.range 416).map (16 + ·))) :
    ∃ t, exec .closeSetupChecks s = .next t ∧ t.link.run = (if s.link.present then .ready else .setup) ∧
      t.odo = s.odo ∧ t.link.counts = s.link.counts ∧ t.sched = s.sched ∧ t.gain.pieces = s.gain.pieces ∧
      (∀ n, slotAt t n = watchClamped (slotAt s n)) ∧ (∀ n : Slot, t.gain.flat[n] = flatMark s n) ∧
      (∀ n : Slot, t.gates.offI[n] = gateOff (slotAt s n).gateI ∧ t.gates.offA[n] = gateOff (slotAt s n).gateA ∧
        t.gates.offB[n] = gateOff (slotAt s n).gateB) ∧
      (∀ n : Slot, t.gates.syncOff[n] =
        ((slotAt s n).interfaceSync && (!(slotAt s n).gateI.enable || gateOff (slotAt s n).gateI))) ∧
      (∀ n : Slot, t.coup.slots[n].source =
        effectiveSource (slotAt s n) (gateOff (slotAt s n).gateI) (gateOff (slotAt s n).gateB)) := by
  obtain ⟨-, x, rest, -, -, hs1⟩ := takeRx_spec htake
  have hrun1 : s1.link.run = .setup := by subst hs1; exact hrun
  have hcalm1 : Calm s1 := by subst hs1; exact hcalm
  have hm1 : MemoryForm s1 := by subst hs1; exact hm
  have hs : SetupSound s1 := fun a h1 h2 => by
    subst hs1
    exact hsound a (List.mem_map.2 ⟨a - 16, List.mem_range.2 (by omega), by omega⟩)
  have hslot (n : Slot) : slotAt s1 n = slotAt s n := by subst hs1; rfl
  have hmark (n : Slot) : flatMark s1 n = flatMark s n := by subst hs1; rfl
  obtain ⟨⟨cells, flat, gates, slots, hc⟩, hrecords, hflat, hoff, hsync, hsource⟩ := findAndCheck_sound hm1 hs
  simp only [hslot, hmark] at hrecords hflat hoff hsync hsource
  obtain ⟨g, gr, k, q, l, hexec, hlrun, hcounts⟩ := closeSetup_ends htake hrun1 rfl (by rw [hc]; exact hcalm1)
    (by rw [hc]; exact hrun1)
  generalize findAndCheck s1 = c at hc hrecords hflat hoff hsync hsource hexec hlrun hcounts
  refine ⟨_, hexec, ?_, ?_, ?_, ?_, ?_, hrecords, hflat, hoff, hsync, hsource⟩
  · refine hlrun.trans ?_
    rw [hc, hs1]
  · rw [hc, hs1]
  · refine hcounts.trans ?_
    rw [hc, hs1]
  · rw [hc, hs1]
  · rw [hc, hs1]

/-! The checks with one damaged word in a slot's record. -/

/-- During the checks one word of slot `m`'s record has two changed bits, and every other word of the area is sound. -/
structure DamagedAt (m : Slot) (k : Nat) (present : Bool) (u : State) : Prop where
  memory : MemoryForm u
  double : bitCount 39 (u.word (slotBase m + k)).changed = 2
  others : ∀ a, 16 ≤ a → a < 432 → a ≠ slotBase m + k → (u.word a).changed = 0
  marks : ∀ n : Slot, n ≠ m → u.sched.storeDamaged[n] = false
  calm : Calm u
  run : u.link.run = .setup
  present : u.link.present = present

section
variable {m : Slot} {k : Nat} {p : Bool} {u t : State}

theorem DamagedAt.congr (h : DamagedAt m k p u) (hcells : t.store.cells = u.store.cells)
    (hmarks : ∀ n : Slot, n ≠ m → t.sched.storeDamaged[n] = u.sched.storeDamaged[n])
    (hclear : t.store.clearAtRelease = u.store.clearAtRelease) (hrun : t.link.run = u.link.run)
    (hpresent : t.link.present = u.link.present) : DamagedAt m k p t := by
  have hword (a : Nat) : t.word a = u.word a := by
    unfold State.word
    rw [hcells]
  exact {
    memory := (congrArg (Memory.wf · = true) hcells).mpr h.memory
    double := by rw [hword]; exact h.double
    others := fun a h1 h2 hne => by rw [hword]; exact h.others a h1 h2 hne
    marks := fun n hn => (hmarks n hn).trans (h.marks n hn)
    calm := hclear.trans h.calm
    run := hrun.trans h.run
    present := hpresent.trans h.present }

/-- What a read of words `ks` of slot `n`'s record leaves. -/
def foundBy (m : Slot) (k : Nat) (n : Slot) (ks : List Nat) (u : State) : State :=
  if n = m ∧ k ∈ ks then damageSlot m (u.count addStoreUncorrectable) else u

theorem DamagedAt.found (h : DamagedAt m k p u) (n : Slot) (ks : List Nat) : DamagedAt m k p (foundBy m k n ks u) := by
  unfold foundBy
  split
  · exact h.congr rfl (fun x hx => (put_get u.sched.storeDamaged m x true).trans (if_neg hx)) rfl rfl rfl
  · exact h

/-- A mark tells of a read that has found the damage. -/
theorem foundBy_marks (n : Slot) (ks : List Nat) :
    (foundBy m k n ks u).sched.storeDamaged[m] = (u.sched.storeDamaged[m] || decide (n = m ∧ k ∈ ks)) := by
  unfold foundBy
  by_cases h : n = m ∧ k ∈ ks
  · rw [if_pos h, decide_eq_true h, Bool.or_true]
    exact (put_get u.sched.storeDamaged m m true).trans (if_pos rfl)
  · rw [if_neg h, decide_eq_false h, Bool.or_false]

theorem foundBy_units (n : Slot) (ks : List Nat) :
    (foundBy m k n ks u).gain = u.gain ∧ (foundBy m k n ks u).gates = u.gates ∧ (foundBy m k n ks u).coup = u.coup := by
  unfold foundBy
  split
  · exact ⟨rfl, rfl, rfl⟩
  · exact ⟨rfl, rfl, rfl⟩

theorem DamagedAt.sound (h : DamagedAt m k p u) (hk : k < 24) {n : Slot} {ks : List Nat} (hks : ∀ x ∈ ks, x < 24)
    (hnot : ¬(n = m ∧ k ∈ ks)) : SoundSlot u n ks := by
  intro a ha
  obtain ⟨x, hx, rfl⟩ := List.mem_map.1 ha
  have hlt := hks x hx
  have hn := n.isLt
  refine h.others _ (by unfold slotBase; omega) (by unfold slotBase; omega) fun heq => hnot ?_
  unfold slotBase at heq
  obtain rfl : n = m := Fin.ext (by omega)
  obtain rfl : x = k := by omega
  exact ⟨rfl, hx⟩

/-- A read of a slot's record in the checks. -/
theorem DamagedAt.read (h : DamagedAt m k p u) (hk : k < 24) (n : Slot) {ks : List Nat} (hks : ∀ x ∈ ks, x < 24) :
    readSlot n ks u = (foundBy m k n ks u, if n = m ∧ k ∈ ks then none else some (slotRead n ks u)) := by
  unfold foundBy
  by_cases hmeets : n = m ∧ k ∈ ks
  · rw [if_pos hmeets, if_pos hmeets]
    obtain ⟨rfl, hin⟩ := hmeets
    obtain ⟨before, after, rfl, hfirst⟩ := List.eq_append_cons_of_mem hin
    exact readSlot_damaged hk (h.sound hk (fun x hx => hks x (List.mem_append_left _ hx)) fun hh => hfirst hh.2) h.double
  · rw [if_neg hmeets, if_neg hmeets]
    exact readSlot_sound (h.sound hk hks hmeets)

theorem DamagedAt.curve (h : DamagedAt m k p u) (hk : k < 24) (a : Area) : Sound u ((List.range 16).map (pointAddr a)) := by
  intro x hx
  obtain ⟨j, hj, rfl⟩ := List.mem_map.1 hx
  have hlt := List.mem_range.1 hj
  have ha := a.isLt
  have hm := m.isLt
  exact h.others _ (by unfold pointAddr; omega) (by unfold pointAddr; omega) (by unfold pointAddr slotBase; omega)

theorem DamagedAt.clampWatch_eq (h : DamagedAt m k p u) (hk : k < 24) (n : Slot) :
    clampWatch u n = if n = m ∧ k ∈ [10, 11] then foundBy m k n [10, 11] u
      else writeWords (slotBase n + 10) (thresholdWords (watchClamped (slotRead n [10, 11] u))) u := by
  have hread := h.read hk n (ks := [10, 11]) (by decide)
  unfold Machine.clampWatch
  rw [hread]
  by_cases hmeets : n = m ∧ k ∈ [10, 11]
  · simp only [if_pos hmeets]
  · have hsame : foundBy m k n [10, 11] u = u := if_neg hmeets
    simp only [if_neg hmeets, hsame]
    rfl

/-- The clamping of the watch thresholds keeps the damage and finds it in words 10 and 11. -/
theorem DamagedAt.clampWatch (h : DamagedAt m k p u) (hk : k < 24) (n : Slot) :
    DamagedAt m k p (clampWatch u n) ∧
      (clampWatch u n).sched.storeDamaged[m] = (u.sched.storeDamaged[m] || decide (n = m ∧ k ∈ [10, 11])) := by
  rw [h.clampWatch_eq hk]
  by_cases hmeets : n = m ∧ k ∈ [10, 11]
  · rw [if_pos hmeets]
    exact ⟨h.found n _, foundBy_marks n _⟩
  · rw [if_neg hmeets, decide_eq_false hmeets, Bool.or_false]
    generalize watchClamped (slotRead n [10, 11] u) = r
    have hword := clampWatch_word h.memory n r
    have hframe := writeWords_frame (slotBase n + 10) (thresholdWords r) u
    have hkeeps := (writeWords_keeps (thresholdWords r) (slotBase n + 10) u).memory h.memory
    generalize writeWords (slotBase n + 10) (thresholdWords r) u = t at hword hframe hkeeps ⊢
    have haway : ¬(slotBase n + 10 ≤ slotBase m + k ∧ slotBase m + k < slotBase n + 12) := by
      rintro ⟨h1, h2⟩
      unfold slotBase at h1 h2
      refine hmeets ⟨Fin.ext (by omega), ?_⟩
      have hk' : k = 10 ∨ k = 11 := by omega
      simpa using hk'
    refine ⟨{ memory := hkeeps, double := ?_, others := fun a h1 h2 hne => ?_, marks := ?_, calm := ?_, run := ?_, present := ?_ }, ?_⟩
    · rw [hword, if_neg haway]
      exact h.double
    · rw [hword]
      split
      · rfl
      · exact h.others a h1 h2 hne
    · rw [hframe]; exact h.marks
    · rw [hframe]; exact h.calm
    · rw [hframe]; exact h.run
    · rw [hframe]; exact h.present
    · rw [hframe]

/-- The flat-gain check of a slot: a mark found leaves its mark clear. -/
theorem DamagedAt.flatCheck (h : DamagedAt m k p u) (hk : k < 24) (n : Slot) :
    ∃ x, flatCheck u n = setFlat n x (foundBy m k n [1] u) ∧
      ((foundBy m k n [1] u).sched.storeDamaged[n] = true → x = .clear) := by
  have hread := h.read hk n (ks := [1]) (by decide)
  have hcurve := (h.found n [1]).curve hk
  have hmarks := foundBy_marks (m := m) (k := k) (u := u) n [1]
  unfold Machine.flatCheck
  rw [hread]
  by_cases hmeets : n = m ∧ k ∈ [1]
  · simp only [if_pos hmeets]
    exact ⟨.clear, rfl, fun _ => rfl⟩
  · simp only [if_neg hmeets]
    generalize foundBy m k n [1] u = v at hcurve ⊢
    by_cases hd : v.sched.storeDamaged[n] = true
    · exact ⟨.clear, if_pos hd, fun _ => rfl⟩
    · simp only [if_neg hd]
      unfold flatByArea
      cases (slotRead n [1] u).area with
      | none => exact ⟨.clear, rfl, fun _ => rfl⟩
      | some a =>
        by_cases hcomplete : areaComplete v.gain.pieces[a] = true
        · simp only [hcomplete, if_true, readCurve_sound (hcurve a)]
          exact ⟨_, rfl, fun h => absurd h hd⟩
        · simp only [hcomplete, Bool.false_eq_true, if_false]
          exact ⟨_, rfl, fun h => absurd h hd⟩

theorem DamagedAt.gateCheck (h : DamagedAt m k p u) (hk : k < 24) (n : Slot) :
    ∃ i a b sync, gateCheck u n = setGateMarks n i a b sync (foundBy m k n [0, 4, 5, 6, 7, 8] u) ∧
      ((foundBy m k n [0, 4, 5, 6, 7, 8] u).sched.storeDamaged[n] = true →
        i = false ∧ a = false ∧ b = false ∧ sync = false) := by
  have hread := h.read hk n (ks := [0, 4, 5, 6, 7, 8]) (by decide)
  unfold Machine.gateCheck
  rw [hread]
  by_cases hmeets : n = m ∧ k ∈ [0, 4, 5, 6, 7, 8]
  · simp only [if_pos hmeets]
    exact ⟨_, _, _, _, rfl, fun _ => ⟨rfl, rfl, rfl, rfl⟩⟩
  · simp only [if_neg hmeets]
    generalize foundBy m k n [0, 4, 5, 6, 7, 8] u = v
    by_cases hd : v.sched.storeDamaged[n] = true
    · exact ⟨_, _, _, _, if_pos hd, fun _ => ⟨rfl, rfl, rfl, rfl⟩⟩
    · exact ⟨_, _, _, _, if_neg hd, fun h => absurd h hd⟩

theorem DamagedAt.sourceCheck (h : DamagedAt m k p u) (hk : k < 24) (n : Slot) :
    ∃ x, sourceCheck u n = setSource n x (foundBy m k n [0, 4] u) ∧
      ((foundBy m k n [0, 4] u).sched.storeDamaged[n] = true → x = .interface) := by
  have hread := h.read hk n (ks := [0, 4]) (by decide)
  unfold Machine.sourceCheck
  rw [hread]
  by_cases hmeets : n = m ∧ k ∈ [0, 4]
  · simp only [if_pos hmeets]
    exact ⟨_, rfl, fun _ => rfl⟩
  · simp only [if_neg hmeets]
    exact ⟨_, rfl, fun hd => if_pos hd⟩

/-- The flat-gain mark of the damaged slot, where damage in its area word or thresholds has been found. -/
def FlatFound (m : Slot) (k : Nat) (u : State) : Prop :=
  k ∈ [1, 10, 11] → u.sched.storeDamaged[m] = true ∧ u.gain.flat[m] = .clear

/-- The gate marks of the damaged slot. -/
def GatesFound (m : Slot) (u : State) : Prop :=
  u.sched.storeDamaged[m] = true ∧ u.gates.offI[m] = false ∧ u.gates.offA[m] = false ∧ u.gates.offB[m] = false ∧
    u.gates.syncOff[m] = false

theorem mark_stays {n : Slot} {ks : List Nat} (h : u.sched.storeDamaged[m] = true) :
    (foundBy m k n ks u).sched.storeDamaged[m] = true := by
  rw [foundBy_marks, h, Bool.true_or]

theorem mark_found {ks : List Nat} (h : k ∈ ks) : (foundBy m k m ks u).sched.storeDamaged[m] = true := by
  rw [foundBy_marks, decide_eq_true ⟨rfl, h⟩, Bool.or_true]

/-- What the check of slot `m` establishes holds after the checks of every slot, when the other slots' keep it. -/
theorem foldl_reaches {P Q : State → Prop} {f : State → Slot → State} (hf : ∀ u n, P u → P (f u n)) (hm : ∀ u, P u → Q (f u m))
    (hkeep : ∀ u n, n ≠ m → P u → Q u → Q (f u n)) {ns : List Slot} (hin : m ∈ ns) (h : P u) :
    P (ns.foldl f u) ∧ Q (ns.foldl f u) := by
  obtain ⟨before, after, rfl⟩ := List.append_of_mem hin
  rw [List.foldl_append, List.foldl_cons]
  have hbefore := foldl_keeps hf before u h
  refine foldl_keeps (P := fun u => P u ∧ Q u) (fun u n ⟨hp, hq⟩ => ⟨hf u n hp, ?_⟩) after _ ⟨hf _ m hbefore, hm _ hbefore⟩
  by_cases hn : n = m
  · subst hn
    exact hm u hp
  · exact hkeep u n hn hp hq

theorem DamagedAt.flatChecked (h : DamagedAt m k p u) (hk : k < 24) (n : Slot) : DamagedAt m k p (Machine.flatCheck u n) := by
  obtain ⟨x, heq, -⟩ := h.flatCheck hk n
  rw [heq]
  exact (h.found n [1]).congr rfl (fun _ _ => rfl) rfl rfl rfl

theorem DamagedAt.gateChecked (h : DamagedAt m k p u) (hk : k < 24) (n : Slot) : DamagedAt m k p (Machine.gateCheck u n) := by
  obtain ⟨i, a, b, sync, heq, -⟩ := h.gateCheck hk n
  rw [heq]
  exact (h.found n _).congr rfl (fun _ _ => rfl) rfl rfl rfl

theorem DamagedAt.sourceChecked (h : DamagedAt m k p u) (hk : k < 24) (n : Slot) :
    DamagedAt m k p (Machine.sourceCheck u n) := by
  obtain ⟨x, heq, -⟩ := h.sourceCheck hk n
  rw [heq]
  exact (h.found n _).congr rfl (fun _ _ => rfl) rfl rfl rfl

theorem FlatFound.found (h : FlatFound m k u) (n : Slot) (ks : List Nat) : FlatFound m k (foundBy m k n ks u) := by
  intro hin
  obtain ⟨hmark, hflat⟩ := h hin
  refine ⟨mark_stays hmark, ?_⟩
  rw [(foundBy_units n ks).1]
  exact hflat

/-- The checks of the watch thresholds of every slot. -/
theorem clampWatches_damaged (h : DamagedAt m k p u) (hk : k < 24) :
    DamagedAt m k p (allSlots.foldl clampWatch u) ∧
      (k ∈ [10, 11] → (allSlots.foldl clampWatch u).sched.storeDamaged[m] = true) := by
  refine foldl_reaches (Q := fun u => k ∈ [10, 11] → u.sched.storeDamaged[m] = true) (fun u n h => (h.clampWatch hk n).1)
    (fun u h hin => ?_) (fun u n _ h hq hin => ?_) (mem_allSlots m) h
  · rw [(h.clampWatch hk m).2, decide_eq_true ⟨rfl, hin⟩, Bool.or_true]
  · rw [(h.clampWatch hk n).2, hq hin, Bool.true_or]

/-- The flat-gain checks of every slot. -/
theorem flatChecks_damaged (h : DamagedAt m k p u) (hk : k < 24) (hq : k ∈ [10, 11] → u.sched.storeDamaged[m] = true) :
    DamagedAt m k p (allSlots.foldl flatCheck u) ∧ FlatFound m k (allSlots.foldl flatCheck u) := by
  refine (foldl_reaches (P := fun u => DamagedAt m k p u ∧ (k ∈ [10, 11] → u.sched.storeDamaged[m] = true))
    (Q := FlatFound m k) (f := flatCheck) (fun u n ⟨h, hq⟩ => ⟨h.flatChecked hk n, fun hin => ?_⟩)
    (fun u ⟨h, hq⟩ hin => ?_) (fun u n hn ⟨h, _⟩ hf hin => ?_) (mem_allSlots m) ⟨h, hq⟩).imp_left And.left
  · obtain ⟨x, heq, -⟩ := h.flatCheck hk n
    rw [heq]
    exact mark_stays (hq hin)
  · obtain ⟨x, heq, hclear⟩ := h.flatCheck hk m
    have hmark : (foundBy m k m [1] u).sched.storeDamaged[m] = true := by
      obtain rfl | hin := List.mem_cons.1 hin
      · exact mark_found List.mem_cons_self
      · exact mark_stays (hq hin)
    rw [heq, hclear hmark]
    exact ⟨hmark, (put_get _ m m _).trans (if_pos rfl)⟩
  · obtain ⟨x, heq, -⟩ := h.flatCheck hk n
    obtain ⟨hmark, hflat⟩ := hf.found n [1] hin
    rw [heq]
    exact ⟨hmark, (put_get _ n m _).trans ((if_neg (Ne.symm hn)).trans hflat)⟩

/-- The gate checks of every slot. -/
theorem gateChecks_damaged (h : DamagedAt m k p u) (hk : k ∈ [0, 1, 4, 5, 6, 7, 8, 10, 11]) (hf : FlatFound m k u) :
    (DamagedAt m k p (allSlots.foldl gateCheck u) ∧ FlatFound m k (allSlots.foldl gateCheck u)) ∧
      GatesFound m (allSlots.foldl gateCheck u) := by
  have hlt : k < 24 := (by decide : ∀ k ∈ [0, 1, 4, 5, 6, 7, 8, 10, 11], k < 24) k hk
  refine foldl_reaches (P := fun u => DamagedAt m k p u ∧ FlatFound m k u) (Q := GatesFound m) (f := gateCheck)
    (fun u n ⟨h, hf⟩ => ⟨h.gateChecked hlt n, ?_⟩) (fun u ⟨h, hf⟩ => ?_) (fun u n hn ⟨h, _⟩ hg => ?_) (mem_allSlots m) ⟨h, hf⟩
  · obtain ⟨i, a, b, sync, heq, -⟩ := h.gateCheck hlt n
    rw [heq]
    exact hf.found n _
  · obtain ⟨i, a, b, sync, heq, hclear⟩ := h.gateCheck hlt m
    have hmark : (foundBy m k m [0, 4, 5, 6, 7, 8] u).sched.storeDamaged[m] = true := by
      have hcases : k ∈ [0, 4, 5, 6, 7, 8] ∨ k ∈ [1, 10, 11] :=
        (by decide : ∀ k ∈ [0, 1, 4, 5, 6, 7, 8, 10, 11], k ∈ [0, 4, 5, 6, 7, 8] ∨ k ∈ [1, 10, 11]) k hk
      obtain hin | hin := hcases
      · exact mark_found hin
      · exact mark_stays (hf hin).1
    obtain ⟨rfl, rfl, rfl, rfl⟩ := hclear hmark
    rw [heq]
    exact ⟨hmark, (put_get _ m m _).trans (if_pos rfl), (put_get _ m m _).trans (if_pos rfl),
      (put_get _ m m _).trans (if_pos rfl), (put_get _ m m _).trans (if_pos rfl)⟩
  · obtain ⟨i, a, b, sync, heq, -⟩ := h.gateCheck hlt n
    obtain ⟨hmark, hI, hA, hB, hS⟩ := hg
    have hother (v : Vector Bool 12) (x : Bool) : (put v n x)[m] = v[m] := (put_get v n m x).trans (if_neg (Ne.symm hn))
    have hgates := (foundBy_units (m := m) (k := k) (u := u) n [0, 4, 5, 6, 7, 8]).2.1
    have hstays := mark_stays (k := k) (n := n) (ks := [0, 4, 5, 6, 7, 8]) hmark
    rw [heq]
    generalize foundBy m k n [0, 4, 5, 6, 7, 8] u = v at hgates hstays ⊢
    refine ⟨hstays, (hother _ _).trans ?_, (hother _ _).trans ?_, (hother _ _).trans ?_, (hother _ _).trans ?_⟩
    · rw [hgates]; exact hI
    · rw [hgates]; exact hA
    · rw [hgates]; exact hB
    · rw [hgates]; exact hS

/-- The source checks of every slot. -/
theorem sourceChecks_damaged (h : DamagedAt m k p u) (hk : k < 24) (hf : FlatFound m k u) (hg : GatesFound m u) :
    (DamagedAt m k p (allSlots.foldl sourceCheck u) ∧ FlatFound m k (allSlots.foldl sourceCheck u) ∧
      GatesFound m (allSlots.foldl sourceCheck u)) ∧ (allSlots.foldl sourceCheck u).coup.slots[m].source = .interface := by
  refine foldl_reaches (P := fun u => DamagedAt m k p u ∧ FlatFound m k u ∧ GatesFound m u)
    (Q := fun u => u.coup.slots[m].source = .interface) (f := sourceCheck)
    (fun u n ⟨h, hf, hg⟩ => ⟨h.sourceChecked hk n, ?_, ?_⟩) (fun u ⟨h, _, hg⟩ => ?_) (fun u n hn ⟨h, _, _⟩ hq => ?_)
    (mem_allSlots m) ⟨h, hf, hg⟩
  · obtain ⟨x, heq, -⟩ := h.sourceCheck hk n
    rw [heq]
    exact hf.found n _
  · obtain ⟨x, heq, -⟩ := h.sourceCheck hk n
    obtain ⟨hmark, hoff⟩ := hg
    have hgates := (foundBy_units (m := m) (k := k) (u := u) n [0, 4]).2.1
    rw [heq]
    refine ⟨mark_stays hmark, ?_⟩
    show (foundBy m k n [0, 4] u).gates.offI[m] = false ∧ (foundBy m k n [0, 4] u).gates.offA[m] = false ∧
      (foundBy m k n [0, 4] u).gates.offB[m] = false ∧ (foundBy m k n [0, 4] u).gates.syncOff[m] = false
    rw [hgates]
    exact hoff
  · obtain ⟨x, heq, hinterface⟩ := h.sourceCheck hk m
    rw [heq, hinterface (mark_stays hg.1)]
    exact congrArg SlotCoupling.source ((put_get _ m m _).trans (if_pos rfl))
  · obtain ⟨x, heq, -⟩ := h.sourceCheck hk n
    have hcoup := (foundBy_units (m := m) (k := k) (u := u) n [0, 4]).2.2
    rw [heq]
    refine (congrArg SlotCoupling.source ((put_get _ n m _).trans (if_neg (Ne.symm hn)))).trans ?_
    rw [hcoup]
    exact hq

end

/-- Settles O46. -/
theorem closeSetupChecksDecide : Obligations.CloseSetupChecksDecide := by
  refine ⟨fun s s1 m k htake hrun hm hcalm hk hdouble hothers => ?_, fun s s1 htake hrun hm hcalm hsound => ?_⟩
  · obtain ⟨-, x, rest, -, -, hs1⟩ := takeRx_spec htake
    have hlt : k < 24 := (by decide : ∀ k ∈ [0, 1, 4, 5, 6, 7, 8, 10, 11], k < 24) k hk
    have hstart : DamagedAt m k s.link.present (setDamaged (Vector.replicate 12 false) s1) := by
      subst hs1
      exact { memory := hm, double := hdouble, others := hothers, marks := fun n _ => replicate_get false n, calm := hcalm
              run := hrun, present := rfl }
    have hmarks : s1.sched.storeDamaged = s.sched.storeDamaged := by subst hs1; rfl
    have hrun1 : s1.link.run = .setup := by subst hs1; exact hrun
    obtain ⟨hd1, hq1⟩ := clampWatches_damaged hstart hlt
    obtain ⟨hd2, hf2⟩ := flatChecks_damaged hd1 hlt hq1
    obtain ⟨⟨hd3, hf3⟩, hg3⟩ := gateChecks_damaged hd2 hk hf2
    obtain ⟨⟨hd4, hf4, hmark, hI, hA, hB, hS⟩, hsource⟩ := sourceChecks_damaged hd3 hlt hf3 hg3
    have hfind : findAndCheck s1 = setDamaged (Vector.zipWith (· || ·) s1.sched.storeDamaged
      (checkSlots (setDamaged (Vector.replicate 12 false) s1)).sched.storeDamaged)
        (checkSlots (setDamaged (Vector.replicate 12 false) s1)) := rfl
    rw [← checkSlots] at hd4 hf4 hmark hI hA hB hS hsource
    generalize checkSlots (setDamaged (Vector.replicate 12 false) s1) = c at hd4 hf4 hmark hI hA hB hS hsource hfind
    obtain ⟨g, gr, kk, q, l, hexec, hlrun, -⟩ := closeSetup_ends htake hrun1 hfind hd4.calm hd4.run
    refine ⟨_, hexec, hlrun.trans ?_, fun n => (zipWith_or_get _ _ n).trans ?_, hI, hA, hB, hS, hsource, fun hin => (hf4 hin).2⟩
    · rw [← hd4.present]
      rfl
    · rw [hmarks]
      by_cases hn : n = m
      · subst hn
        rw [hmark, beq_self_eq_true]
      · rw [hd4.marks n hn, beq_false_of_ne hn]
  · obtain ⟨t, hexec, hready, hodo, hcounts, hsched, hpieces, hslots, hflat, hoff, hsync, hsource⟩ :=
      closeSetup_sound htake hrun hm hcalm hsound
    refine ⟨t, hexec, hready, hodo, hcounts, hsched, hpieces, fun n => ?_⟩
    intro r off
    obtain ⟨hI, hA, hB⟩ := hoff n
    obtain ⟨hsrcB, hsrcI⟩ := effectiveSource_spec r
    obtain ⟨hnone, hincomplete, hall⟩ := flatMark_spec s n
    rw [hI, hA, hB, hsync, hsource, hflat]
    refine ⟨hslots n, gateOff_iff _, gateOff_iff _, gateOff_iff _, ?_, hsrcB, hsrcI, hnone, hincomplete, hall⟩
    rw [Bool.and_eq_true, Bool.or_eq_true, Bool.not_eq_true', gateOff_iff]

end Sys2Proof.Machine
end

section
/-! PROOFS. The link transmitter: the choice of a source, its reads, and the end of a frame (R153, R154, R179 to R181). -/

namespace Sys2Proof.Machine

/-! The transmitter's reads and removals. -/

theorem soundItem {s : State} {base size : Nat} (h : Sound s (wordsFrom base size)) : readItem base size s = s :=
  readItem_sound fun k hk => h _ (List.mem_map.2 ⟨k, List.mem_range.2 hk, rfl⟩)

/-- The read of the locked record on sound words (R153). -/
theorem readLocked_sound {s : State} {n : Nat} {r : Placed IndicationRecord} {rest : List (Placed IndicationRecord)}
    (hlocked : s.rep.locked = some n) (hrecords : s.rep.records = r :: rest) (hsound : Sound s (wordsFrom (reportBase r.place) 11)) :
    readLocked s = startFrame .indication (frameBytes 10 s.strap.val everyNode (indicationBytes r.item)) s := by
  simp only [readLocked, hlocked, hrecords, soundItem hsound]

/-- The read of the FIFO's head on sound words (R180). -/
theorem readHead_sound {s : State} {w : Placed WatchOut} {rest : List (Placed WatchOut)} (hfifo : s.link.fifo = w :: rest)
    (hsound : Sound s (wordsFrom (fifoBase w.place) 4)) :
    readHead false s = startFrame .watch (frameBytes 11 s.strap.val everyNode (watchBytes w.item)) s := by
  have hfind : (w :: rest).find? (fun x => x.place == w.place) = some w := List.find?_cons_of_pos (beq_self_eq_true _)
  simp only [readHead, hfifo, soundItem hsound, hfind]

/-- The removal of a sent head on sound words (R180). -/
theorem removeSent_sound {s : State} {w : Placed WatchOut} {rest : List (Placed WatchOut)} (hfifo : s.link.fifo = w :: rest)
    (hsound : Sound s (wordsFrom (fifoBase w.place) 4)) : removeSent s = { s with link := { s.link with fifo := rest } } := by
  have hread : readItem (fifoBase w.place) 4 { s with store := { s.store with txReqs := .removeHead false :: s.store.txReqs } } =
    { s with store := { s.store with txReqs := .removeHead false :: s.store.txReqs } } := soundItem hsound
  simp only [removeSent, hfifo, hread]
  rfl

/-- Settles O54. -/
theorem transmitterSendsAndMovesOn : Obligations.TransmitterSendsAndMovesOn := by
  refine ⟨fun s s1 => ⟨fun r rest n htake hlocked hrecords hsound => ?_, fun w rest htake hfifo hsound => ?_,
    fun r rest htake hrecords => ?_, fun w l htake hfifo hsound => ?_, fun htake => ?_⟩, ?_⟩
  · obtain ⟨-, x, left, -, -, hs1⟩ := takeTx_spec htake
    have hread := readLocked_sound (s := s1) (n := n) (by subst hs1; exact hlocked) (by subst hs1; exact hrecords)
      (by subst hs1; exact hsound)
    simp only [exec, execTransmitterRead, htake, hread]
    subst hs1
    rfl
  · obtain ⟨-, x, left, -, -, hs1⟩ := takeTx_spec htake
    have hread := readHead_sound (s := s1) (by subst hs1; exact hfifo) (by subst hs1; exact hsound)
    simp only [exec, execTransmitterRead, htake, hread]
    subst hs1
    rfl
  · obtain ⟨-, x, left, -, -, hs1⟩ := takeTx_spec htake
    have hrecords1 : s1.rep.records = r :: rest := by subst hs1; exact hrecords
    simp only [exec, execTransmitterRead, htake, readHead, chooseReport, hrecords1]
    refine congrArg (fun u => Host.Outcome.next (release u)) ?_
    rw [← hrecords1]
    subst hs1
    rfl
  · obtain ⟨-, x, left, -, -, hs1⟩ := takeTx_spec htake
    have hremove := removeSent_sound (s := s1) (by subst hs1; exact hfifo) (by subst hs1; exact hsound)
    simp only [exec, execFifoRemoval, htake, Bool.false_eq_true, if_false, hremove]
    subst hs1
    rfl
  · simp only [exec, execFifoRemoval, htake, if_true]
  · intro s rest
    refine ⟨fun bytes n htx hlocked => ?_, fun bytes htx hfifo => ?_, fun bytes htx => ?_⟩
    · simp only [exec, execTransmissionEnd, htx, endOf, endReport, hlocked]
      rfl
    · have hnonempty : s.link.fifo.isEmpty = false := by simpa using hfifo
      simp only [exec, execTransmissionEnd, htx, endOf, hnonempty, Bool.false_eq_true, if_false]
      rfl
    · obtain htx | htx := htx
      · simp only [exec, execTransmissionEnd, htx, endOf]
        rfl
      · simp only [exec, execTransmissionEnd, htx, endOf]
        rfl

/-! The bytes of the layouts of R189. -/

theorem bytes4_eq (x : Int) : s32Bytes x = bytes4 x := by
  have hdiv (n : Nat) : n / 65536 / 256 = n / 16777216 := Nat.div_div_eq_div_mul n 65536 256
  show [byteOf ((x % 4294967296).toNat / 65536 / 256), byteOf ((x % 4294967296).toNat / 65536),
    byteOf ((x % 4294967296).toNat / 256), byteOf (x % 4294967296).toNat] = _
  rw [hdiv]
  rfl

theorem bitOf_eq (b : Bool) (k : Nat) : bitOf b k = 2 ^ k * b.toNat := by
  cases b
  · exact (Nat.mul_zero _).symm
  · exact (Nat.mul_one _).symm

theorem bytes2_eq (n : Nat) : u16Bytes n = bytes2 n := rfl

theorem byte1_eq (n : Nat) : byteOf n = byte1 n := rfl

theorem runCode_eq (r : RunState) : r.code = runCode r := by cases r <;> rfl

/-- The bits of a slot in STATUS part 0, its transmit port as its record holds it (R189). -/
theorem slotStatus_eq (s : State) (n : Slot) : slotStatus s n (slotAt s n).txPort = slotBits s n := by
  have hstate : s.coup.slots[n].state.code =
      (match s.coup.slots[n].state with | .coupled => 0 | .doubtful => 1 | .lost => 2 | .recovering => 3) := by
    cases s.coup.slots[n].state <;> rfl
  have hflat : s.gain.flat[n].code =
      (match s.gain.flat[n] with | .clear => 0 | .incomplete => 1 | .order => 2 | .damaged => 3) := by
    cases s.gain.flat[n] <;> rfl
  have hsource : s.coup.slots[n].source.code =
      (match s.coup.slots[n].source with | .interface => 0 | .gateB => 1 | .none => 2) := by
    cases s.coup.slots[n].source <;> rfl
  simp only [slotStatus, slotBits, bitOf_eq, hstate, hflat, hsource]
  rfl

/-- The transmit ports of sound slot records (R189; log 10). -/
theorem readPorts_sound {s : State} (ns : List Slot) (h : ∀ n, SoundSlot s n [0]) :
    readPorts ns s = (s, ns.map fun n => (n, (slotAt s n).txPort)) := by
  induction ns with
  | nil => rfl
  | cons n rest ih =>
    have hport : (slotRead n [0] s).txPort = (slotAt s n).txPort := slotRead_txPort List.mem_cons_self
    simp only [readPorts, readSlotOn_sound (h n), ih, hport]
    rfl

theorem readDir_minus (o : Odometry) : (readDir o == .minus) = ((o.dir == .minus) != o.revReached) := by
  unfold readDir
  cases o.revReached <;> cases o.dir <;> rfl

/-- The bytes of STATUS part 0 on sound slot records (R189). -/
theorem statusPart0_eq (s : State) : statusPart0 s (allSlots.map fun n => (n, (slotAt s n).txPort)) = partZero s := by
  have hflags : (readDir s.odo == .minus).toNat + 2 * s.rail.stuck.toNat + 4 * s.odo.posLimit.toNat + 8 * s.link.clash.toNat
      + 16 * s.link.present.toNat = bitOf ((s.odo.dir == .minus) != s.odo.revReached) 0 + bitOf s.rail.stuck 1
        + bitOf s.odo.posLimit 2 + bitOf s.link.clash 3 + bitOf s.link.present 4 := by
    simp only [bitOf_eq, readDir_minus, pow_zero, Nat.one_mul]
    rfl
  have hslots : (allSlots.map fun n => (n, (slotAt s n).txPort)).flatMap (fun x => u16Bytes (slotStatus s x.1 x.2)) =
      allSlots.flatMap fun n => bytes2 (slotBits s n) := by
    rw [List.flatMap_map]
    exact List.flatMap_congr fun n _ => congrArg bytes2 (slotStatus_eq s n)
  have hhead (parts : Nat) : statusHead 0 parts s.link.run = byte1 (4 * parts + 16 * runCode s.link.run) := by
    unfold statusHead
    rw [Nat.zero_add, runCode_eq]
    rfl
  unfold statusPart0
  rw [hflags, hslots, hhead, bytes4_eq]
  rfl

theorem partZero_length (s : State) : (partZero s).length = 41 := by
  simp only [partZero, bytes2, bytes4, List.length_append, List.length_cons, List.length_nil]

/-- The bytes of a gap record (R189). -/
theorem gapBytes_eq (g : GapRecord) : gapBytes g = gapRecordBytes g := by
  have hcause : g.cause.code = (match g.cause with | .overrun => 0 | .port => 1 | .store => 2 | .coupling => 3) := by
    cases g.cause <;> rfl
  simp only [gapBytes, gapRecordBytes, bytes4_eq, bitOf_eq, hcause]
  rfl

theorem statusPartN_eq (part parts : Nat) (r : RunState) (gs : List GapRecord) :
    statusPartN part parts r gs =
      [byte1 (part + 4 * parts + 16 * runCode r), byte1 gs.length] ++ gs.flatMap gapRecordBytes := by
  unfold statusPartN statusHead
  rw [runCode_eq, funext gapBytes_eq]
  rfl

/-- The parts of a report beside part 0 (R186, R189). -/
theorem statusRest_eq (s : State) : statusRest s = laterParts s.link.run s.link.gapList := by
  unfold statusRest laterParts
  simp only [statusPartN_eq]
  generalize s.link.gapList = gs
  by_cases hnone : gs = []
  · subst hnone
    rfl
  · have hpos : gs.length ≠ 0 := fun h => hnone (List.length_eq_zero_iff.1 h)
    have hempty : gs.isEmpty = false := by simpa using hnone
    rw [if_neg hpos, hempty, if_neg Bool.false_ne_true]
    by_cases hfour : gs.length ≤ 4
    · have htwo : partCount gs.length = 2 := (if_neg hpos).trans (if_pos hfour)
      rw [if_pos hfour, if_pos hfour, htwo, List.take_of_length_le hfour]
      rfl
    · have hthree : partCount gs.length = 3 := (if_neg hpos).trans (if_neg hfour)
      rw [if_neg hfour, if_neg hfour, hthree, List.length_take, List.length_drop]
      rfl

theorem gapRecordBytes_length (g : GapRecord) : (gapRecordBytes g).length = 9 := rfl

/-- The length of a later part of a report. -/
theorem part_length (x y : Byte) (gs : List GapRecord) : ([x, y] ++ gs.flatMap gapRecordBytes).length = 2 + 9 * gs.length := by
  rw [List.length_append, List.length_flatMap, List.map_congr_left fun g _ => gapRecordBytes_length g, List.map_const']
  simp only [List.sum_replicate, List.length_cons, List.length_nil, smul_eq_mul]
  omega

/-- Each later part has a length that a STATUS frame can have (R176). -/
theorem laterParts_fit {r : RunState} {gs : List GapRecord} (h : gs.length ≤ 8) :
    ∀ p ∈ laterParts r gs, lengthFits 12 p.length = true := by
  have hfit (n : Nat) (hn : 1 ≤ n ∧ n ≤ 4) : lengthFits 12 (2 + 9 * n) = true := by
    obtain ⟨h1, h4⟩ := hn
    interval_cases n <;> rfl
  intro p hp
  unfold laterParts at hp
  by_cases hnone : gs.length = 0
  · simp only [if_pos hnone] at hp
    exact absurd hp List.not_mem_nil
  · by_cases hfour : gs.length ≤ 4
    · simp only [if_neg hnone, if_pos hfour, List.mem_singleton] at hp
      rw [hp, part_length]
      exact hfit _ (by omega)
    · simp only [if_neg hnone, if_neg hfour, List.mem_cons, List.not_mem_nil, or_false] at hp
      obtain rfl | rfl := hp
      · rw [part_length]
        exact hfit _ (by rw [List.length_take]; omega)
      · rw [part_length]
        exact hfit _ (by rw [List.length_drop]; omega)

/-- The four bytes of a peak (R189). -/
def peakBytes (p : Peak) : List Byte := bytes2 p.time ++ bytes2 p.raw

/-- The places of a peak list, those beyond it 0 (R189). -/
theorem peaks_padded (l : List Peak) {n m : Nat} (h : 4 * n ≤ m) :
    (l.flatMap peakBytes ++ List.replicate m (0 : Byte)).take (4 * n) =
      (List.range n).flatMap fun k => (l[k]?.map peakBytes).getD [0, 0, 0, 0] := by
  induction n generalizing l m with
  | zero => rfl
  | succ n ih =>
    rw [List.range_succ_eq_map, List.flatMap_cons, List.flatMap_map]
    cases l with
    | nil =>
      obtain ⟨m', rfl⟩ : ∃ m', m = 4 + m' := ⟨m - 4, by omega⟩
      have hrest := ih [] (m := m') (by omega)
      rw [List.flatMap_nil, List.nil_append] at hrest ⊢
      rw [List.replicate_add]
      exact congrArg ([0, 0, 0, 0] ++ ·) hrest
    | cons p rest =>
      rw [List.flatMap_cons, List.append_assoc]
      exact congrArg (peakBytes p ++ ·) (ih rest (m := m) (by omega))

theorem gateResultBytes_eq (g : GateResult) : gateResultBytes g =
    byte1 ((match g.status with
      | .disabled => 0 | .notEvaluated => 1 | .found => 2 | .notFound => 3 | .loss => 4 | .present => 5)
      + 16 * g.place.getD 0) :: bytes2 (g.amp.getD 0) := by
  unfold gateResultBytes
  cases g.status <;> rfl

/-- Place `k` of a SHOT frame's peaks (R189). -/
def peakPlace (x : ShotAnswer) (k : Nat) : List Byte :=
  match x.record.peaks[k]? with
  | some p => bytes2 p.time ++ bytes2 p.raw
  | none => [0, 0, 0, 0]

theorem peakPlace_eq (x : ShotAnswer) (k : Nat) : (x.record.peaks[k]?.map peakBytes).getD [0, 0, 0, 0] = peakPlace x k := by
  unfold peakPlace
  cases x.record.peaks[k]? <;> rfl

theorem peakPlace_length (x : ShotAnswer) (k : Nat) : (peakPlace x k).length = 4 := by
  unfold peakPlace
  cases x.record.peaks[k]? <;> rfl

/-- The first seven bytes of a SHOT frame's payload (R189). -/
def shotHead (x : ShotAnswer) : List Byte :=
  [byte1 x.record.slot.val,
   byte1 (bitOf x.record.transmitted 0 + bitOf x.record.overflow 1 + bitOf x.record.settle 2 + bitOf x.record.unclaimed 3
     + bitOf x.results.noInterface 4),
   byte1 x.record.peaks.length] ++ bytes4 x.record.firePos

theorem shotPayload_eq (x : ShotAnswer) : shotPayload x =
    shotHead x ++ peakPlace x 0 ++ peakPlace x 1 ++ peakPlace x 2 ++ peakPlace x 3 ++ peakPlace x 4 ++ peakPlace x 5
      ++ peakPlace x 6 ++ peakPlace x 7 ++ gateResultBytes x.results.i ++ gateResultBytes x.results.a
      ++ gateResultBytes x.results.b := by
  rw [gateResultBytes_eq, gateResultBytes_eq, gateResultBytes_eq]
  rfl

/-- The bytes of a SHOT frame (R189). -/
theorem shotBytes_eq (x : ShotAnswer) : shotBytes x = shotPayload x := by
  have hpeaks := peaks_padded x.record.peaks (n := 8) (m := 32) (by decide)
  have hflags : x.record.transmitted.toNat + 2 * x.record.overflow.toNat + 4 * x.record.settle.toNat
      + 8 * x.record.unclaimed.toNat + 16 * x.results.noInterface.toNat =
      bitOf x.record.transmitted 0 + bitOf x.record.overflow 1 + bitOf x.record.settle 2 + bitOf x.record.unclaimed 3
        + bitOf x.results.noInterface 4 := by
    simp only [bitOf_eq, pow_zero, Nat.one_mul]
    rfl
  have hall : (x.record.peaks.flatMap (fun p => u16Bytes p.time ++ u16Bytes p.raw) ++ List.replicate 32 (0 : Byte)).take 32 =
      (List.range 8).flatMap (peakPlace x) := by
    simp only [peakPlace_eq] at hpeaks
    exact hpeaks
  rw [shotPayload_eq]
  unfold shotBytes shotHead
  simp only [hflags, hall, bytes4_eq, List.range, List.range.loop, List.flatMap_cons, List.flatMap_nil,
    List.append_nil, byte1_eq, List.append_assoc]

theorem shotPayload_length (x : ShotAnswer) : (shotPayload x).length = 48 := by
  rw [shotPayload_eq]
  simp only [shotHead, gateResultBytes, u16Bytes, bytes4, List.length_append, List.length_cons, List.length_nil, peakPlace_length]

/-! The choice of a source. -/

theorem chooseFifo_passed {s : State} (h : s.link.fifo = [] ∨ s.store.txReqs.any (· == .removeHead false) = true) :
    chooseFifo s = chooseReport s := by
  have hpass : (s.link.fifo.isEmpty || removalWaits s) = true := by
    obtain hempty | hwaits := h
    · rw [hempty]; rfl
    · rw [removalWaits, hwaits, Bool.or_true]
  exact if_pos hpass

theorem chooseReport_empty {s : State} (h : s.rep.records = []) : chooseReport s = chooseStatus s := by
  simp only [chooseReport, h]

theorem chooseStatus_rests {s : State} (hparts : s.link.partsLeft = []) (hdue : s.link.statusDue = false) :
    chooseStatus s = chooseShot s := by
  simp only [chooseStatus, hparts, hdue, Bool.false_eq_true, if_false]

/-- A report built on sound slot records (R186, R189). -/
theorem buildStatus_sound {s : State} (h : ∀ n, SoundSlot s n [0]) :
    buildStatus s = s.setLink fun l =>
      { afterBuild l with partsLeft := laterParts s.link.run s.link.gapList,
                          tx := .sending .status (statusFrame s (partZero s)) } := by
  unfold buildStatus
  simp only [readPorts_sound allSlots h, statusRest_eq, statusPart0_eq]

/-- Settles O53, source by source in their order. -/
theorem sourceIsChosenInOrder : Obligations.SourceIsChosenInOrder := by
  intro s haccess passed reading send
  have hexec : exec .accessDelayExpiry s = .next (arbitrate (chooseFifo s)) := by
    simp only [exec, execAccessDelayExpiry, haccess, if_true]
  rw [hexec]
  refine ⟨fun hpass => ?_, fun r rest hpass hrecords => ?_, fun p rest hpass hrecords hparts => ?_,
    fun hpass hrecords hparts hdue hsound => ⟨?_, partZero_length s, laterParts_fit⟩,
    fun x hpass hrecords hparts hdue hbuf => ⟨?_, shotPayload_length x⟩, fun hfifo hrecords hparts hdue hbuf => ?_⟩
  · obtain ⟨hfifo, hwaits⟩ := not_or.1 hpass
    have hempty : (s.link.fifo.isEmpty || removalWaits s) = false := by
      rw [Bool.or_eq_false_iff, removalWaits]
      exact ⟨by simpa using hfifo, Bool.not_eq_true _ ▸ hwaits⟩
    have hchoose : chooseFifo s = startRead (.readFifo false) s := if_neg (by rw [hempty]; exact Bool.false_ne_true)
    rw [hchoose]
    rfl
  · have hchoose : chooseReport s = startRead .readReport { s with rep := { s.rep with locked := some r.item.number } } := by
      unfold chooseReport
      split
      · rename_i q _ hq
        rw [hrecords] at hq
        obtain ⟨rfl, -⟩ := List.cons.inj hq
        rfl
      · rename_i hq
        exact absurd (hrecords.symm.trans hq) (List.cons_ne_nil _ _)
    rw [chooseFifo_passed hpass, hchoose]
    rfl
  · have hchoose : chooseStatus s = startFrame .status (statusFrame s p) (s.setLink fun l => { l with partsLeft := rest }) := by
      simp only [chooseStatus, hparts]
    rw [chooseFifo_passed hpass, chooseReport_empty hrecords, hchoose]
    rfl
  · have hchoose : chooseStatus s = buildStatus (s.setLink fun l => { l with access := .sending, wait := none }) := by
      simp only [chooseStatus, hparts, hdue, if_true]
    rw [chooseFifo_passed hpass, chooseReport_empty hrecords, hchoose, buildStatus_sound (by exact hsound)]
    rfl
  · have hchoose : chooseShot s = startFrame .shot (frameBytes 13 s.strap.val recorderNode (shotPayload x))
        (s.setLink fun l => { l with shotBuf := none }) := by
      simp only [chooseShot, hbuf, shotBytes_eq]
    rw [chooseFifo_passed hpass, chooseReport_empty hrecords, chooseStatus_rests hparts hdue, hchoose]
    rfl
  · have hchoose : chooseShot s = toRest s := by simp only [chooseShot, hbuf]
    have hquiet : frameReady (s.setLink fun l => { l with access := .idle, wait := none, tx := .none }) = false := by
      have hfifoReady : fifoReady (s.setLink fun l => { l with access := .idle, wait := none, tx := .none }) = false := by
        show (if removalWaits s = true then !s.link.fifo.tail.isEmpty else !s.link.fifo.isEmpty) = false
        rw [hfifo]
        split <;> rfl
      show (fifoReady _ || !s.rep.records.isEmpty || s.link.statusDue || !s.link.partsLeft.isEmpty || s.link.shotBuf.isSome) = false
      rw [hfifoReady, hrecords, hdue, hparts, hbuf]
      rfl
    have hrest : toRest s = s.setLink fun l => { l with access := .idle, wait := none, tx := .none } :=
      linkWake_rest (by rw [hquiet]; exact fun h => Bool.false_ne_true h.2)
    rw [chooseFifo_passed (.inl hfifo), chooseReport_empty hrecords, chooseStatus_rests hparts hdue, hchoose, hrest]
    rfl

end Sys2Proof.Machine
end

section
/-! PROOFS. Frames and the fields that a peer takes from them (R135, R140, R176, R177, R189). -/

namespace Sys2Proof.Machine

/-! The frame and its tests. -/

/-- The bytes of a frame from the kind through the payload (R177). -/
def frameBody (kind source dest : Nat) (payload : List Byte) : List Byte :=
  [byteOf kind, byteOf source, byteOf dest, byteOf payload.length] ++ payload

theorem frameBytes_eq (kind source dest : Nat) (payload : List Byte) : frameBytes kind source dest payload =
    startByte :: (frameBody kind source dest payload ++ u16Bytes (crc16 (frameBody kind source dest payload)).toNat) := rfl

theorem frameBody_length (kind source dest : Nat) (payload : List Byte) :
    (frameBody kind source dest payload).length = 4 + payload.length := by
  rw [frameBody, List.length_append]
  rfl

/-- The tests of a frame from its start byte on (R177). -/
theorem frameMalformed_cons (body : List Byte) : frameMalformed (startByte :: body) =
    (decide (48 < byteAt body 3) || !lengthFits (byteAt body 0) (byteAt body 3) || decide (body.length < 6 + byteAt body 3)
      || (crc16 (body.take (4 + byteAt body 3))).toNat != u16At body (4 + byteAt body 3)) := by
  simp only [frameMalformed, beq_self_eq_true, Bool.true_and]

/-- Every length that a kind can have is 48 or below (R176). -/
theorem lengthFits_le {kind n : Nat} (h : lengthFits kind n = true) : n ≤ 48 := by
  unfold lengthFits at h
  split at h <;> simp at h <;> omega

theorem byteAt_append_right (l m : List Byte) (i : Nat) : byteAt (l ++ m) (l.length + i) = byteAt m i := by
  simp only [byteAt_getD, List.getD_eq_getElem?_getD, List.getElem?_append_right (Nat.le_add_right _ _), Nat.add_sub_cancel_left]

/-- A field of two bytes behind others reads back. -/
theorem u16At_append (l : List Byte) {n : Nat} (hn : n < 65536) : u16At (l ++ u16Bytes n) l.length = n := by
  have hhigh := byteAt_append_right l (u16Bytes n) 0
  have hlow := byteAt_append_right l (u16Bytes n) 1
  rw [Nat.add_zero] at hhigh
  rw [u16At, hhigh, hlow]
  exact byteOf_u16 hn

/-- A built frame is malformed by its length alone. -/
theorem frameMalformed_built {kind : Nat} (src dst : Nat) {p : List Byte} (hkind : kind < 256) (hp : p.length < 256) :
    frameMalformed (frameBytes kind src dst p) = true ↔ lengthFits kind p.length = false := by
  have hb {n : Nat} (hn : n < 256) : (byteOf n).toNat = n := (byteOf_toNat n).trans (Nat.mod_eq_of_lt hn)
  have hlen := frameBody_length kind src dst p
  have hcrc := u16At_append (frameBody kind src dst p) (crc16 (frameBody kind src dst p)).isLt
  have h0 : byteAt (frameBody kind src dst p ++ u16Bytes (crc16 (frameBody kind src dst p)).toNat) 0 = kind := hb hkind
  have h3 : byteAt (frameBody kind src dst p ++ u16Bytes (crc16 (frameBody kind src dst p)).toNat) 3 = p.length := hb hp
  have htake : (frameBody kind src dst p ++ u16Bytes (crc16 (frameBody kind src dst p)).toNat).take (4 + p.length) =
    frameBody kind src dst p := by rw [← hlen, List.take_left]
  have hwhole : ¬(frameBody kind src dst p ++ u16Bytes (crc16 (frameBody kind src dst p)).toNat).length < 6 + p.length := by
    rw [List.length_append, hlen]
    exact Nat.not_lt.2 (by simp only [u16Bytes, List.length_cons, List.length_nil]; omega)
  rw [hlen] at hcrc
  rw [frameBytes_eq, frameMalformed_cons, h0, h3, htake, hcrc, decide_eq_false hwhole, bne_self_eq_false, Bool.or_false, Bool.or_false,
    Bool.or_eq_true, decide_eq_true_iff, Bool.not_eq_true']
  exact ⟨fun h => h.elim (fun hlong => Bool.eq_false_iff.2 fun hfits => absurd (lengthFits_le hfits) (Nat.not_le.2 hlong)) id, .inr⟩

/-- A frame cut short is malformed (R177). -/
theorem frameMalformed_cut {kind : Nat} (src dst : Nat) {p : List Byte} {k : Nat} (hp : p.length < 256)
    (h1 : 1 ≤ k) (hk : k < 7 + p.length) : frameMalformed ((frameBytes kind src dst p).take k) = true := by
  obtain ⟨j, rfl⟩ : ∃ j, k = j + 1 := ⟨k - 1, by omega⟩
  rw [frameBytes_eq, List.take_succ_cons, frameMalformed_cons]
  have hshort : ((frameBody kind src dst p ++ u16Bytes (crc16 (frameBody kind src dst p)).toNat).take j).length <
      6 + byteAt ((frameBody kind src dst p ++ u16Bytes (crc16 (frameBody kind src dst p)).toNat).take j) 3 := by
    rw [byteAt_getD, List.getD_eq_getElem?_getD, List.getElem?_take]
    by_cases hj : 3 < j
    · have h3 : (frameBody kind src dst p ++ u16Bytes (crc16 (frameBody kind src dst p)).toNat)[3]? = some (byteOf p.length) := rfl
      rw [if_pos hj, h3, Option.getD_some, byteOf_toNat, Nat.mod_eq_of_lt hp]
      exact lt_of_le_of_lt (List.length_take_le _ _) (by omega)
    · exact lt_of_le_of_lt (List.length_take_le _ _) (by omega)
  rw [decide_eq_true hshort, Bool.or_true, Bool.true_or]

/-! The fields a peer takes. -/

theorem byteOf_u32 {n : Nat} (h : n < 4294967296) :
    ((byteOf (n / 65536 / 256)).toNat * 256 + (byteOf (n / 65536)).toNat) * 65536 + ((byteOf (n / 256)).toNat * 256 + (byteOf n).toNat) = n := by
  simp only [byteOf_toNat]
  omega

/-- A signed field of four bytes reads back. -/
theorem s32_read {x : Int} (h1 : -2147483648 ≤ x) (h2 : x ≤ 2147483647) : signed 2147483648 (unsigned 4294967296 x) = x := by
  unfold signed unsigned
  split <;> omega

theorem unsigned32_lt (x : Int) : unsigned 4294967296 x < 4294967296 := by
  unfold unsigned
  omega

/-- The fourth byte of an INDICATION payload: the slot and the rail read back. -/
theorem indication_byte {n : Slot} {g k : Nat} (b c : Bool) (hg : g ≤ 1) (hk : k ≤ 1) :
    bits (byteOf (n.val + 16 * g + 32 * k + 64 * b.toNat + 128 * c.toNat)).toNat 0 4 = n.val ∧
      bit (byteOf (n.val + 16 * g + 32 * k + 64 * b.toNat + 128 * c.toNat)).toNat 6 = b := by
  have hn := n.isLt
  have hb := b.toNat_le
  have hc := c.toNat_le
  rw [byteOf_toNat]
  refine ⟨?_, bit_of_toNat ?_⟩
  · unfold bits
    omega
  · omega

theorem Gate.code_le (g : Gate) : g.code ≤ 1 := by cases g <;> decide

theorem HitKind.code_le (k : HitKind) : k.code ≤ 1 := by cases k <;> decide

/-- What a peer takes from an INDICATION (R135, R189). -/
theorem asPeer_indication (src : Nat) {r : IndicationRecord} (hn : r.number ≤ 65535) (h1 : -2147483648 ≤ r.peakPos)
    (h2 : r.peakPos ≤ 2147483647) : asPeer (.indication src (indicationBytes r)) = some
      { railCode := if r.railRight then 1 else 0
        entry := { station := src, slot := r.slot.val, number := r.number, pos := r.peakPos, mark := .reported }
        zone := none } := by
  obtain ⟨hslot, hrail⟩ := indication_byte (n := r.slot) r.railRight r.source.isSome r.gate.code_le r.kind.code_le
  have hnumber := byteOf_u16 (n := r.number) (by omega)
  have hcode : r.railRight.toNat = if r.railRight then 1 else 0 := by cases r.railRight <;> rfl
  simp only [asPeer, indicationBytes, u16Bytes, s32Bytes, u32Bytes, List.cons_append, List.nil_append, u16At, u32At, s32At,
    byteAt_zero, byteAt_succ, hslot, hrail, hnumber, byteOf_u32 (unsigned32_lt _), s32_read h1 h2]
  rw [hcode]

theorem indicationBytes_length (r : IndicationRecord) : (indicationBytes r).length = 29 := by
  simp only [indicationBytes, u16Bytes, s32Bytes, u32Bytes, List.length_append, List.length_cons, List.length_nil]

/-- What a peer takes from a WATCH (R135, R140, R189). -/
theorem asPeer_watch (src : Nat) {w : WatchOut} (ho : w.origin ≤ 65535) (hh : w.half ≤ 65535) (hs : w.slot ≤ 255)
    (h1 : -2147483648 ≤ w.centre) (h2 : w.centre ≤ 2147483647) : asPeer (.watch src (watchBytes w)) = some
      { railCode := if w.railRight then 1 else 0
        entry := { station := src, slot := w.slot, number := w.origin, pos := w.centre, mark := .weak }
        zone := some { centre := w.centre, half := max 8 (min 4095 w.half) } } := by
  have horigin := byteOf_u16 (n := w.origin) (by omega)
  have hhalf := byteOf_u16 (n := w.half) (by omega)
  have hslot : (byteOf w.slot).toNat = w.slot := (byteOf_toNat _).trans (Nat.mod_eq_of_lt (by omega))
  have hrail : (byteOf w.railRight.toNat).toNat = if w.railRight then 1 else 0 := by cases w.railRight <;> rfl
  simp only [asPeer, watchBytes, u16Bytes, s32Bytes, u32Bytes, List.cons_append, List.nil_append, u16At, u32At, s32At,
    byteAt_zero, byteAt_succ, horigin, hhalf, hslot, hrail, byteOf_u32 (unsigned32_lt _), s32_read h1 h2]
  rfl

theorem watchBytes_length (w : WatchOut) : (watchBytes w).length = 10 := by
  simp only [watchBytes, u16Bytes, s32Bytes, u32Bytes, List.length_append, List.length_cons, List.length_nil]

/-- Settles O55. -/
theorem framesCarryTheirFields : Obligations.FramesCarryTheirFields :=
  ⟨fun _ src dst _ hkind hp => ⟨frameMalformed_built src dst hkind hp, fun _ h1 hk => frameMalformed_cut src dst hp h1 hk⟩,
    fun src r hn h1 h2 => ⟨indicationBytes_length r, asPeer_indication src hn h1 h2⟩,
    fun src w ho hh hs h1 h2 => ⟨watchBytes_length w, asPeer_watch src ho hh hs h1 h2⟩⟩

end Sys2Proof.Machine
end
